-- ==== Sys2Proof/Word.lean ====
section
/-! DEFINITION. The words the hub is made of: bytes, microsecond times, publication numbers, triples and
matrices, and the names of ports, heads and slots (spec/00_scope.md, sections 7 and 8). -/

namespace Sys2Proof

/-- One byte of a message. -/
abbrev Byte := BitVec 8

/-- A value of the microsecond counter, or an interval between two of them (00 section 7.3). -/
abbrev Micros := BitVec 48

/-- A publication number (00 section 7.4). -/
abbrev PubNum := BitVec 48

/-- A host port, 0 to 3. -/
abbrev Port := Fin 4

/-- The number of an entry of the context table, 0 to 7 (R1). -/
abbrev CtxNum := Fin 8

/-- A user slot of the store, 0 or 1 (R141). -/
abbrev Slot := Fin 2

/-- A head, or the link it stands on. -/
inductive Head where
  | A | B
  deriving DecidableEq, Repr

/-- The other head. -/
def Head.other : Head → Head
  | .A => .B
  | .B => .A

/-- One thing for each head. -/
structure Pair (α : Type) where
  a : α
  b : α
  deriving DecidableEq, Repr

def Pair.get {α : Type} (p : Pair α) : Head → α
  | .A => p.a
  | .B => p.b

def Pair.set {α : Type} (p : Pair α) (x : Head) (v : α) : Pair α :=
  match x with
  | .A => { p with a := v }
  | .B => { p with b := v }

/-- The three axes of one sensor. -/
structure Triple (α : Type) where
  x : α
  y : α
  z : α
  deriving DecidableEq, Repr

def Triple.map {α β : Type} (f : α → β) (t : Triple α) : Triple β := ⟨f t.x, f t.y, f t.z⟩

def Triple.zip {α β γ : Type} (f : α → β → γ) (t : Triple α) (u : Triple β) : Triple γ :=
  ⟨f t.x u.x, f t.y u.y, f t.z u.z⟩

def Triple.toList {α : Type} (t : Triple α) : List α := [t.x, t.y, t.z]

def Triple.const {α : Type} (v : α) : Triple α := ⟨v, v, v⟩

/-- A matrix kept by rows (R65): the row of the x output first. -/
abbrev Mat3 (α : Type) := Triple (Triple α)

def Mat3.toList {α : Type} (m : Mat3 α) : List α := m.x.toList ++ m.y.toList ++ m.z.toList

/-- A counter that stops at its largest value (00 section 7.1). -/
def satInc {w : Nat} (v : BitVec w) : BitVec w := if v = BitVec.allOnes w then v else v + 1

end Sys2Proof
end

