-- ==== Sys2Proof/Machine/Bytes.lean ====
section
/-! DEFINITION. Bytes on the wire: most significant byte first (R185), and the two checks (R186). -/

namespace Sys2Proof.Machine

/-- A number in `n` bytes, most significant first (R185). -/
def beBytes : Nat → Nat → List Byte
  | 0, _ => []
  | n + 1, v => BitVec.ofNat 8 (v >>> (8 * n)) :: beBytes n v

/-- The number that a string of bytes spells, most significant first (R185). -/
def beNat (bytes : List Byte) : Nat := bytes.foldl (fun v b => v * 256 + b.toNat) 0

/-- A field of `8 * n` bits or fewer in `n` bytes. -/
def field {w : Nat} (n : Nat) (v : BitVec w) : List Byte := beBytes n v.toNat

/-- `k v`, with `v` evaluated before `k` is entered: it changes no value (`withValue_eq`), and it keeps a long
check computation from nesting. -/
def withValue {α : Type} (v : Nat) (k : Nat → α) : α :=
  match v with
  | 0 => k 0
  | n + 1 => k (n + 1)

/-- One bit of the CRC-16 register, polynomial 1021h (R186). -/
def crc16Bit (r : BitVec 16) : BitVec 16 := if r.msb then (r <<< 1) ^^^ 0x1021#16 else r <<< 1

def crc16Byte (r : BitVec 16) (b : Byte) : BitVec 16 := Nat.repeat crc16Bit 8 (r ^^^ (b.setWidth 16 <<< 8))

def crc16From (r : BitVec 16) : List Byte → BitVec 16
  | [] => r
  | b :: bs => withValue (crc16Byte r b).toNat fun v => crc16From (BitVec.ofNat 16 v) bs

/-- CRC-16: register from FFFFh, neither reflected nor inverted (R186). -/
def crc16 (bytes : List Byte) : BitVec 16 := crc16From 0xFFFF#16 bytes

/-- One bit of the CRC-32 register, polynomial 04C11DB7h (R186). -/
def crc32Bit (r : BitVec 32) : BitVec 32 := if r.msb then (r <<< 1) ^^^ 0x04C11DB7#32 else r <<< 1

def crc32Byte (r : BitVec 32) (b : Byte) : BitVec 32 := Nat.repeat crc32Bit 8 (r ^^^ (b.setWidth 32 <<< 24))

def crc32From (r : BitVec 32) : List Byte → BitVec 32
  | [] => r
  | b :: bs => withValue (crc32Byte r b).toNat fun v => crc32From (BitVec.ofNat 32 v) bs

/-- CRC-32: register from FFFFFFFFh, not reflected, inverted at the end (R186). -/
def crc32 (bytes : List Byte) : BitVec 32 := crc32From 0xFFFFFFFF#32 bytes ^^^ 0xFFFFFFFF#32

/-- A message with its CRC-16 after it (R186). -/
def sealed (bytes : List Byte) : List Byte := bytes ++ field 2 (crc16 bytes)

/-- Whether a string of bytes ends in the CRC-16 of the bytes before its last two (R186). -/
def checkMatches (bytes : List Byte) : Bool :=
  beNat (bytes.drop (bytes.length - 2)) = (crc16 (bytes.take (bytes.length - 2))).toNat

/-- The bytes of a string from `at_` for `n`, as a number. -/
def numberAt (bytes : List Byte) (at_ n : Nat) : Nat := beNat ((bytes.drop at_).take n)

def byteAt (bytes : List Byte) (at_ : Nat) : Byte := bytes.getD at_ 0#8

end Sys2Proof.Machine
end

