-- ==== Sys2Proof/Config.lean ====
section
/-! DEFINITION. Numbers common to all chapters (spec/00_scope.md, section 8) and the values the manual leaves
open. A constant without a body is a free value: no proof can see what it is. -/

namespace Sys2Proof.Config

/-- Records the history ring can hold (R25). -/
def historyCapacity : Nat := 1024

/-- Delta records a take queue can hold (R1). -/
def takeDepth : Nat := 4

/-- Contexts one port can own (R1). -/
def contextsPerPort : Nat := 4

/-- Replies a reply queue can hold (R175). -/
def replyDepth : Nat := 4

/-- Largest request payload in bytes (R172). -/
def maxRequestPayload : Nat := 120

/-- The count limit of a context (R10): 2^32 − 1. -/
def countLimit : Nat := 4294967295

/-- Shortest spacing of two strobes in microseconds (R106). -/
def minSpacing : Nat := 200

/-- Timeout of a head command: 100 ms (R95). -/
def commandTimeout : Nat := 100000

/-- The phases of a commit, in microseconds (R149, R150). -/
def erasingMicros : Nat := 30000
def writingMicros : Nat := 10000
def verifyingMicros : Nat := 2000

/-- Writes of one slot after which it is worn (R142). -/
def writeLimit : Nat := 100000

/-- Shortest time from the end of a transaction of a port to the fall that begins one which is not EARLY, in microseconds
(R172). -/
def earlyLimit : Nat := 2

/-- Shortest low level on RESET that is a part reset, in microseconds (R191). -/
def resetLowMicros : Nat := 10

/-- Consecutive accepted frames of a bring-up (R87), the tally that faults a link (R89) and the silence
that loses one (R91). -/
def bringUpFrames : Nat := 16
def tallyLimit : Nat := 64
def silenceLimit : Nat := 64

/-- Windows a hold repeats the last values for (R57). -/
def heldLimit : Nat := 8

/-- Largest hold-off count (R42). -/
def holdOffLimit : Nat := 65536

/-- IDENTIFY's vendor and part codes (R181). -/
def vendorCode : BitVec 16 := 0x0C3D#16
def partCode : BitVec 16 := 0x0402#16

/-- DESIGN CHOICE (free value, safe): the silicon revision code; R181 names it and gives no number. -/
opaque siliconRevision : BitVec 8

/-- DESIGN CHOICE (free value, safe): the hub serial, distinct for every hub; R181 gives no number. -/
opaque hubSerial : BitVec 64

/-- DESIGN CHOICE (free value, safe): the microseconds the start-up load takes on an idle hub. R144 says "about 20 ms". -/
opaque loadMicros : Nat

/-- DESIGN CHOICE (free value, safe): whether a SELF_TEST response with an outcome code other than 0 and 1
counts as PASS; section 11.8 names no other code. -/
opaque outcomePasses : BitVec 8 → Bool

end Sys2Proof.Config
end

