-- ==== Sys2Proof/Syntax.lean ====
section
/-! DEFINITION. The commands of the hub: one constructor per row of spec/opcode_table.json. A request command
is the end of the transaction that carried the request (R171), so it names the port, the tag and how many
padding bytes the host clocked after the request's check (10 section 10.2). Payload fields are kept as the
raw codes of section 11.3: the owning rule, not the syntax, refuses a code outside its table (R185). -/

namespace Sys2Proof

/-- What begins a part reset (R191): power-on, or a low level on RESET of so many microseconds. -/
inductive ResetCause where
  | powerOn
  | resetLow (micros : Nat)
  deriving DecidableEq, Repr

/-- The transaction that carries a request: its port, the request's tag, and the bytes clocked after the check. -/
structure Req where
  port : Port
  tag : Byte
  padding : Nat
  deriving DecidableEq, Repr

/-- The contents of a SAMPLE frame (R81). The status byte is laid out as section 11.7 gives. -/
structure SampleFrame where
  echo : Byte
  status : Byte
  gyro : Triple (BitVec 24)
  accel : Triple (BitVec 24)
  temp : BitVec 16
  deriving DecidableEq, Repr

/-- The contents of a RESPONSE frame (R82, section 11.8). -/
inductive ResponseBody where
  | identify (serial : BitVec 32) (model : BitVec 16)
  | selfTest (outcome : Byte) (failSet : Byte)
  deriving DecidableEq, Repr

/-- What the medium holds in the target slot when its writing ends (R149): what was written, or, after a fault
of the medium, something else (generation and image as they will read back; none is an erased field). -/
inductive MediumOutcome where
  | sound
  | spoiled (generation : Option (BitVec 32)) (image : Option (List Byte))
  deriving DecidableEq, Repr

/-- The request kinds of section 10.6, NOP apart. Their codes and lengths stand in Decode.lean (R187). -/
inductive RequestKind where
  | identify | portReset | setAttention | condRead | healthRead | timeRead
  | histRead | histPeek | histSeek | histWatermark
  | deltaOpen | deltaTake | deltaCollect | deltaClose | deltaStatus
  | calRead | headIdent | headTest
  | leaseAcquire | leaseRelease
  | stageCal | stageSource | stageThresholds | stageTiming | stageRead | stageDiscard | activate
  | storeCommit | storeStatus
  deriving DecidableEq, Repr

/-- The commands, one for each row of the table. -/
inductive Instr where
  -- resets and power
  | partReset (cause : ResetCause)
  | resetRelease
  | startUpLoad
  -- transactions
  /-- `sooner`: chip select falls nearer to the start of its microsecond than it rose, in its own, at the end of the port's
  previous transaction (log 12). -/
  | chipSelectFall (p : Port) (sooner : Bool)
  | nop (p : Port) (clocked : Nat)
  | malformedRequest (p : Port) (bytes : List Byte)
  -- port requests
  | identify (r : Req)
  | portReset (r : Req)
  | setAttention (r : Req) (mask : Byte)
  -- conditions, health, time
  | condRead (r : Req)
  | healthRead (r : Req)
  | timeRead (r : Req)
  -- history
  | histRead (r : Req) (max : Byte)
  | histPeek (r : Req)
  | histSeek (r : Req) (form : Byte) (number : PubNum)
  | histWatermark (r : Req) (value : BitVec 16)
  -- delta contexts
  | deltaOpen (r : Req) (label : BitVec 16) (period : BitVec 16) (form : Byte) (number : PubNum)
  | deltaTake (r : Req) (ctx : Byte)
  | deltaCollect (r : Req) (ctx : Byte)
  | deltaClose (r : Req) (ctx : Byte) (discard : Byte)
  | deltaStatus (r : Req) (ctx : Byte)
  -- calibration and heads
  | calRead (r : Req) (head : Byte) (form : Byte)
  | headIdent (r : Req) (head : Byte)
  | headTest (r : Req) (head : Byte)
  -- lease and staging
  | leaseAcquire (r : Req) (wait : Byte) (period : BitVec 16)
  | leaseRelease (r : Req)
  | stageCal (r : Req) (head : Byte) (group : Byte) (values : Mat3 (BitVec 32))
  | stageSource (r : Req) (mode : Byte) (holdOff : BitVec 16)
  | stageThresholds (r : Req) (gyro : BitVec 32) (accel : BitVec 32)
  | stageTiming (r : Req) (rate : BitVec 16) (mode : Byte) (scale : BitVec 16)
  | stageRead (r : Req)
  | stageDiscard (r : Req)
  | activate (r : Req)
  -- store
  | storeCommit (r : Req)
  | storeStatus (r : Req)
  | erasingEnd
  | writingEnd (medium : MediumOutcome)
  | verifyingEnd
  -- arrivals and timers
  | completionArrival (index : Nat)
  | leaseExpiry
  | freeStrobe
  | syncEdge
  | fallbackCheck
  | syncPulse
  | scheduledStrobe
  | virtualOrigin
  | holdoverDeadline
  | holdoverEnd
  | timingChange
  | strobeAtSel
  | strobeAtLink (x : Head)
  | sample (x : Head) (frame : SampleFrame)
  | response (x : Head) (body : ResponseBody)
  | crcError (x : Head) (bytes : List Byte)
  | commandTimeout (x : Head)
  | miss (x : Head)
  | append
  | publicationAtDelta
  | walkStep (c : CtxNum)
  | dropAtDelta
  | levelReEvaluation
  | powerLoss
  deriving DecidableEq, Repr

end Sys2Proof
end

