-- ==== Sys2Proof/Decode.lean ====
section
/-! DEFINITION. Messages as bytes: requests (R172, R187), upstream head frames (R83, section 11.8), and the table's
words. The table gives no row any bits, so no word spells a command. -/

namespace Sys2Proof

open Sys2Proof.Machine

/-- The code of a request kind (R187). -/
def RequestKind.code : RequestKind → Byte
  | .identify => 0x01#8
  | .portReset => 0x02#8
  | .setAttention => 0x03#8
  | .condRead => 0x08#8
  | .healthRead => 0x09#8
  | .timeRead => 0x0A#8
  | .histRead => 0x10#8
  | .histPeek => 0x11#8
  | .histSeek => 0x12#8
  | .histWatermark => 0x13#8
  | .deltaOpen => 0x20#8
  | .deltaTake => 0x21#8
  | .deltaCollect => 0x22#8
  | .deltaClose => 0x23#8
  | .deltaStatus => 0x24#8
  | .calRead => 0x30#8
  | .headIdent => 0x31#8
  | .headTest => 0x32#8
  | .leaseAcquire => 0x40#8
  | .leaseRelease => 0x41#8
  | .stageCal => 0x42#8
  | .stageSource => 0x43#8
  | .stageThresholds => 0x44#8
  | .stageTiming => 0x45#8
  | .stageRead => 0x46#8
  | .stageDiscard => 0x47#8
  | .activate => 0x48#8
  | .storeCommit => 0x50#8
  | .storeStatus => 0x51#8

/-- The one payload length of a request kind (R187). -/
def RequestKind.length : RequestKind → Nat
  | .identify => 0
  | .portReset => 0
  | .setAttention => 1
  | .condRead => 0
  | .healthRead => 0
  | .timeRead => 0
  | .histRead => 1
  | .histPeek => 0
  | .histSeek => 7
  | .histWatermark => 2
  | .deltaOpen => 11
  | .deltaTake => 1
  | .deltaCollect => 1
  | .deltaClose => 2
  | .deltaStatus => 1
  | .calRead => 2
  | .headIdent => 1
  | .headTest => 1
  | .leaseAcquire => 3
  | .leaseRelease => 0
  | .stageCal => 38
  | .stageSource => 3
  | .stageThresholds => 8
  | .stageTiming => 5
  | .stageRead => 0
  | .stageDiscard => 0
  | .activate => 0
  | .storeCommit => 0
  | .storeStatus => 0

def RequestKind.all : List RequestKind :=
  [.identify, .portReset, .setAttention, .condRead, .healthRead, .timeRead, .histRead, .histPeek, .histSeek,
   .histWatermark, .deltaOpen, .deltaTake, .deltaCollect, .deltaClose, .deltaStatus, .calRead, .headIdent, .headTest,
   .leaseAcquire, .leaseRelease, .stageCal, .stageSource, .stageThresholds, .stageTiming, .stageRead, .stageDiscard,
   .activate, .storeCommit, .storeStatus]

/-- The request kind a code names, if it names one (R172). -/
def RequestKind.ofCode (c : Byte) : Option RequestKind := RequestKind.all.find? fun k => k.code = c

/-- Whether the port carries the kind out during STARTING (R173). -/
def RequestKind.inStarting (k : RequestKind) : Bool := k = .identify || k = .healthRead

/-- The reasons of a FRAME_ERROR (R172), with the codes of section 11.4. -/
inductive FrameReason where
  | early | shortHeader | lengthRange | shortPayload | check
  deriving DecidableEq, Repr

def FrameReason.code : FrameReason → Byte
  | .early => 1#8
  | .shortHeader => 2#8
  | .lengthRange => 3#8
  | .shortPayload => 4#8
  | .check => 5#8

/-- A number of `n` bytes of a payload as a field of width `w`. -/
def payloadField (w : Nat) (pl : List Byte) (at_ n : Nat) : BitVec w := BitVec.ofNat w (numberAt pl at_ n)

def payloadTriple (pl : List Byte) (at_ : Nat) : Triple (BitVec 32) :=
  ⟨payloadField 32 pl at_ 4, payloadField 32 pl (at_ + 4) 4, payloadField 32 pl (at_ + 8) 4⟩

/-- The command that a payload of the right length spells for its kind (R187). -/
def decodePayload (r : Req) (k : RequestKind) (pl : List Byte) : Instr :=
  match k with
  | .identify => .identify r
  | .portReset => .portReset r
  | .setAttention => .setAttention r (byteAt pl 0)
  | .condRead => .condRead r
  | .healthRead => .healthRead r
  | .timeRead => .timeRead r
  | .histRead => .histRead r (byteAt pl 0)
  | .histPeek => .histPeek r
  | .histSeek => .histSeek r (byteAt pl 0) (payloadField 48 pl 1 6)
  | .histWatermark => .histWatermark r (payloadField 16 pl 0 2)
  | .deltaOpen => .deltaOpen r (payloadField 16 pl 0 2) (payloadField 16 pl 2 2) (byteAt pl 4) (payloadField 48 pl 5 6)
  | .deltaTake => .deltaTake r (byteAt pl 0)
  | .deltaCollect => .deltaCollect r (byteAt pl 0)
  | .deltaClose => .deltaClose r (byteAt pl 0) (byteAt pl 1)
  | .deltaStatus => .deltaStatus r (byteAt pl 0)
  | .calRead => .calRead r (byteAt pl 0) (byteAt pl 1)
  | .headIdent => .headIdent r (byteAt pl 0)
  | .headTest => .headTest r (byteAt pl 0)
  | .leaseAcquire => .leaseAcquire r (byteAt pl 0) (payloadField 16 pl 1 2)
  | .leaseRelease => .leaseRelease r
  | .stageCal =>
    .stageCal r (byteAt pl 0) (byteAt pl 1) ⟨payloadTriple pl 2, payloadTriple pl 14, payloadTriple pl 26⟩
  | .stageSource => .stageSource r (byteAt pl 0) (payloadField 16 pl 1 2)
  | .stageThresholds => .stageThresholds r (payloadField 32 pl 0 4) (payloadField 32 pl 4 4)
  | .stageTiming => .stageTiming r (payloadField 16 pl 0 2) (byteAt pl 2) (payloadField 16 pl 3 2)
  | .stageRead => .stageRead r
  | .stageDiscard => .stageDiscard r
  | .activate => .activate r
  | .storeCommit => .storeCommit r
  | .storeStatus => .storeStatus r

/-- What the port finds in the bytes of a transaction (R172), the cases that need the port's state (EARLY,
STARTING) apart. -/
inductive Received where
  | nothing
  | frameError (reason : FrameReason)
  | unknownKind
  | badLength
  | request (i : Instr)
  deriving DecidableEq, Repr

/-- The cases of R172 that the bytes alone decide, in their order. -/
def decodeRequest (p : Port) (bytes : List Byte) : Received :=
  let len := (byteAt bytes 2).toNat
  if bytes.isEmpty || byteAt bytes 0 = 0#8 then .nothing
  else if bytes.length < 3 then .frameError .shortHeader
  else if len > Config.maxRequestPayload then .frameError .lengthRange
  else if bytes.length < 3 + len + 2 then .frameError .shortPayload
  else if ¬ checkMatches (bytes.take (3 + len + 2)) then .frameError .check
  else
    match RequestKind.ofCode (byteAt bytes 0) with
    | none => .unknownKind
    | some k =>
      if len ≠ k.length then .badLength
      else
        .request (decodePayload ⟨p, byteAt bytes 1, bytes.length - (3 + len + 2)⟩ k ((bytes.drop 3).take len))

/-- The request a command carries: its transaction, its kind and its payload (R187); none for the commands that
are not requests. -/
def requestOf : Instr → Option (Req × RequestKind × List Byte)
  | .identify r => some (r, .identify, [])
  | .portReset r => some (r, .portReset, [])
  | .setAttention r mask => some (r, .setAttention, [mask])
  | .condRead r => some (r, .condRead, [])
  | .healthRead r => some (r, .healthRead, [])
  | .timeRead r => some (r, .timeRead, [])
  | .histRead r max => some (r, .histRead, [max])
  | .histPeek r => some (r, .histPeek, [])
  | .histSeek r form number => some (r, .histSeek, form :: field 6 number)
  | .histWatermark r value => some (r, .histWatermark, field 2 value)
  | .deltaOpen r label period form number =>
    some (r, .deltaOpen, field 2 label ++ field 2 period ++ form :: field 6 number)
  | .deltaTake r ctx => some (r, .deltaTake, [ctx])
  | .deltaCollect r ctx => some (r, .deltaCollect, [ctx])
  | .deltaClose r ctx discard => some (r, .deltaClose, [ctx, discard])
  | .deltaStatus r ctx => some (r, .deltaStatus, [ctx])
  | .calRead r head form => some (r, .calRead, [head, form])
  | .headIdent r head => some (r, .headIdent, [head])
  | .headTest r head => some (r, .headTest, [head])
  | .leaseAcquire r wait period => some (r, .leaseAcquire, wait :: field 2 period)
  | .leaseRelease r => some (r, .leaseRelease, [])
  | .stageCal r head group values => some (r, .stageCal, head :: group :: values.toList.flatMap (field 4))
  | .stageSource r mode holdOff => some (r, .stageSource, mode :: field 2 holdOff)
  | .stageThresholds r gyro accel => some (r, .stageThresholds, field 4 gyro ++ field 4 accel)
  | .stageTiming r rate mode scale => some (r, .stageTiming, field 2 rate ++ mode :: field 2 scale)
  | .stageRead r => some (r, .stageRead, [])
  | .stageDiscard r => some (r, .stageDiscard, [])
  | .activate r => some (r, .activate, [])
  | .storeCommit r => some (r, .storeCommit, [])
  | .storeStatus r => some (r, .storeStatus, [])
  | .partReset _ | .resetRelease | .startUpLoad | .chipSelectFall _ _ | .nop _ _ | .malformedRequest _ _
  | .erasingEnd | .writingEnd _ | .verifyingEnd | .completionArrival _ | .leaseExpiry | .freeStrobe | .syncEdge
  | .fallbackCheck | .syncPulse | .scheduledStrobe | .virtualOrigin | .holdoverDeadline | .holdoverEnd | .timingChange
  | .strobeAtSel | .strobeAtLink _ | .sample _ _ | .response _ _ | .crcError _ _ | .commandTimeout _ | .miss _
  | .append | .publicationAtDelta | .walkStep _ | .dropAtDelta | .levelReEvaluation | .powerLoss => none

/-- The message a host sends for a request command (section 11.2), with `padding` zero bytes after its check. -/
def requestMessage (i : Instr) : Option (List Byte) :=
  match requestOf i with
  | none => none
  | some (r, k, pl) =>
    some (sealed (k.code :: r.tag :: BitVec.ofNat 8 pl.length :: pl) ++ List.replicate r.padding 0#8)

def rawTriple (bytes : List Byte) (at_ : Nat) : Triple (BitVec 24) :=
  ⟨payloadField 24 bytes at_ 3, payloadField 24 bytes (at_ + 3) 3, payloadField 24 bytes (at_ + 6) 3⟩

/-- The upstream frame that a string of bytes is, by check, type, length and kind (section 11.8); none is a
CRC_ERROR (R83 case 1). -/
def decodeUpstream (x : Head) (bytes : List Byte) : Option Instr :=
  if ¬ checkMatches bytes then none
  else if bytes.length = 25 && byteAt bytes 0 = 0x01#8 then
    some (.sample x
      { echo := byteAt bytes 1, status := byteAt bytes 2, gyro := rawTriple bytes 3, accel := rawTriple bytes 12,
        temp := payloadField 16 bytes 21 2 })
  else if bytes.length = 10 && byteAt bytes 0 = 0x02#8 && byteAt bytes 1 = 1#8 then
    some (.response x (.identify (payloadField 32 bytes 2 4) (payloadField 16 bytes 6 2)))
  else if bytes.length = 6 && byteAt bytes 0 = 0x02#8 && byteAt bytes 1 = 2#8 then
    some (.response x (.selfTest (byteAt bytes 2) (byteAt bytes 3)))
  else none

/-- The message a head sends for a SAMPLE or RESPONSE (section 11.8); none for any other command. -/
def upstreamMessage : Instr → Option (List Byte)
  | .sample _ f =>
    some (sealed (0x01#8 :: f.echo :: f.status ::
      (f.gyro.toList.flatMap (field 3) ++ f.accel.toList.flatMap (field 3) ++ field 2 f.temp)))
  | .response _ (.identify serial model) => some (sealed (0x02#8 :: 1#8 :: (field 4 serial ++ field 2 model)))
  | .response _ (.selfTest outcome failSet) => some (sealed [0x02#8, 2#8, outcome, failSet])
  | _ => none

/-- The command a word of the table spells: none, since no row of the table has bits. -/
def decodeTableWord (_nbits _w : Nat) : Option Instr := none

end Sys2Proof
end

