-- ==== Sys2Proof/Machine/State.lean ====
section
/-! DEFINITION. The state of the hub, block by block (spec/00_scope.md section 3), as plain data; the machine right
after reset; and the reasons a step can stop. -/

namespace Sys2Proof.Machine

/-! ## Configuration (R69, R104, R119) -/

/-- Sample rates (R104). -/
inductive Rate where
  | r500 | r1000 | r2000 | r4000
  deriving DecidableEq, Repr

/-- Sync modes (R119). -/
inductive SyncMode where
  | free | direct | scaled
  deriving DecidableEq, Repr

/-- Source modes (R119). -/
inductive SourceMode where
  | aOnly | bOnly | preferA | preferB
  deriving DecidableEq, Repr

/-- The timing items of an image (R116): rate code, sync mode and S. -/
structure Timing where
  rate : Rate
  mode : SyncMode
  scale : BitVec 16
  deriving DecidableEq, Repr

/-- A user record (R69). -/
structure UserRecord where
  gyroTrim : Triple (BitVec 32)
  accelTrim : Triple (BitVec 32)
  gyroAlign : Mat3 (BitVec 32)
  accelAlign : Mat3 (BitVec 32)
  deriving DecidableEq, Repr

/-- An image: active, staged or in a slot (R119). -/
structure Image where
  user : Pair UserRecord
  mode : SourceMode
  holdOff : BitVec 16
  gyroThreshold : BitVec 32
  accelThreshold : BitVec 32
  timing : Timing
  deriving DecidableEq, Repr

/-- The identity alignment in Q2.30 (R69). -/
def identityAlign : Mat3 (BitVec 32) :=
  ⟨⟨0x40000000#32, 0#32, 0#32⟩, ⟨0#32, 0x40000000#32, 0#32⟩, ⟨0#32, 0#32, 0x40000000#32⟩⟩

def UserRecord.default : UserRecord := ⟨Triple.const 0#32, Triple.const 0#32, identityAlign, identityAlign⟩

/-- The default image (R119). -/
def Image.default : Image :=
  { user := ⟨UserRecord.default, UserRecord.default⟩, mode := .preferA, holdOff := 256#16,
    gyroThreshold := 327680#32, accelThreshold := 13107#32, timing := ⟨.r2000, .free, 1#16⟩ }

/-- A factory record (R65). -/
structure FactoryRecord where
  serial : BitVec 32
  gyroBias : Triple (BitVec 24)
  gyroMatrix : Mat3 (BitVec 32)
  accelBias : Triple (BitVec 24)
  accelMatrix : Mat3 (BitVec 32)
  check : BitVec 16
  deriving DecidableEq, Repr

/-! ## Conditions (R157, section 11.9) -/

/-- The 27 members of a condition set (R157). -/
inductive Cond where
  | linkFault (x : Head)
  | linkLost (x : Head)
  | headSensor (x : Head)
  | headForeign (x : Head)
  | headSelfTestFail (x : Head)
  | factoryCorrupt (x : Head)
  | sourceSwitch
  | syncEdgeReject
  | scaleRange
  | storeWriteFail
  | configActivated
  | publishHeld
  | headDisagree
  | syncLost
  | syncUnlock
  | storeBlank
  | storeCorrupt
  | ringOverrun
  | leaseExpired
  | frameError
  | replyLost
  deriving DecidableEq, Repr

/-! ## Publications (R61, R62) -/

/-- The sync tag of a strobe (R114). -/
structure SyncTag where
  count : BitVec 16
  phase : BitVec 16
  deriving DecidableEq, Repr

/-- A strobe as TB hands it to SEL (R102). -/
structure Strobe where
  number : BitVec 8
  time : Micros
  fallback : Bool
  tag : Option SyncTag
  deriving DecidableEq, Repr

/-- The flags of a publication (R62). -/
structure PubFlags where
  held : Bool
  void : Bool
  suspect : Bool
  saturated : Bool
  sourceChange : Bool
  epochChange : Bool
  syncFallback : Bool
  deriving DecidableEq, Repr

/-- A publication record (R61); a source of none is NONE. -/
structure Publication where
  number : PubNum
  time : Micros
  interval : Micros
  strobe : BitVec 8
  source : Option Head
  epoch : BitVec 16
  tag : Option SyncTag
  gyro : Triple (BitVec 32)
  accel : Triple (BitVec 32)
  temp : Option (BitVec 16)
  flags : PubFlags
  deriving DecidableEq, Repr

/-! ## Delta contexts (R1 to R7) -/

/-- The pending flags of a context (R6). -/
structure DeltaFlags where
  heldSeen : Bool
  voidSeen : Bool
  suspectSeen : Bool
  saturatedSeen : Bool
  sourceChangeSeen : Bool
  epochSpan : Bool
  syncFallbackSeen : Bool
  sumSaturated : Bool
  historyGap : Bool
  partialStart : Bool
  takeDeferred : Bool
  deriving DecidableEq, Repr

def DeltaFlags.empty : DeltaFlags :=
  ⟨false, false, false, false, false, false, false, false, false, false, false⟩

/-- The pending accumulation of a context (R3). `lastEpoch` and the held marks are internal. -/
structure Accumulation where
  first : Option PubNum
  last : Option PubNum
  count : BitVec 32
  voids : BitVec 32
  skipped : BitVec 32
  startTime : Micros
  endTime : Micros
  angle : Triple (BitVec 64)
  velocity : Triple (BitVec 64)
  total : Micros
  flags : DeltaFlags
  angleHeld : Triple Bool
  velocityHeld : Triple Bool
  totalHeld : Bool
  lastEpoch : Option (BitVec 16)
  deriving DecidableEq, Repr

/-- The empty accumulation (R3). -/
def Accumulation.empty : Accumulation :=
  { first := none, last := none, count := 0#32, voids := 0#32, skipped := 0#32, startTime := 0#48, endTime := 0#48,
    angle := Triple.const 0#64, velocity := Triple.const 0#64, total := 0#48, flags := DeltaFlags.empty,
    angleHeld := Triple.const false, velocityHeld := Triple.const false, totalHeld := false, lastEpoch := none }

/-- How a delta record was made (R7). -/
inductive RecordKind where
  | manual | auto | closing
  deriving DecidableEq, Repr

/-- A delta record (R7). -/
structure DeltaRecord where
  ctx : CtxNum
  kind : RecordKind
  label : BitVec 16
  sequence : BitVec 16
  first : Option PubNum
  last : Option PubNum
  count : BitVec 32
  voids : BitVec 32
  skipped : BitVec 32
  startTime : Micros
  endTime : Micros
  angle : Triple (BitVec 64)
  velocity : Triple (BitVec 64)
  total : Micros
  flags : DeltaFlags
  deriving DecidableEq, Repr

/-- The state of a context that is not FREE (R1). -/
inductive CtxState where
  | backfilling | opened
  deriving DecidableEq, Repr

/-- A context that is not FREE (R2). -/
structure Context where
  state : CtxState
  owner : Port
  label : BitVec 16
  period : BitVec 16
  openTag : Byte
  sequence : BitVec 16
  start : PubNum
  position : PubNum
  acc : Accumulation
  queue : List DeltaRecord
  deriving DecidableEq, Repr

/-- DELTA: the context table (a FREE entry is none, R1) and the most recent publication whose arrival it has
taken (R4). -/
structure DeltaEngine where
  contexts : Vector (Option Context) 8
  lastArrival : Option PubNum
  deriving DecidableEq, Repr

/-! ## History (R25, R28) -/

/-- The history state of a port (R28). -/
structure Reader where
  cursor : PubNum
  watermark : BitVec 16
  skipTotal : BitVec 32
  skippedSinceRead : BitVec 16
  reached : Bool
  deriving DecidableEq, Repr

/-- HIST: the ring, oldest record first, `next`, and the ports' history state. The held count is the length of
`records` (R25). -/
structure History where
  records : List Publication
  next : PubNum
  readers : Vector Reader 4
  deriving DecidableEq, Repr

/-! ## Time base (R103) -/

inductive FallbackState where
  | edge | fallback
  deriving DecidableEq, Repr

inductive LockState where
  | unlocked | acquiring | locked | holdover
  deriving DecidableEq, Repr

/-- The acquisition run (R110). -/
structure AcquisitionRun where
  lastPulse : Option Micros
  inRange : Option Micros
  count : Nat
  deriving DecidableEq, Repr

def AcquisitionRun.empty : AcquisitionRun := ⟨none, none, 0⟩

/-- The lock reference (R103): the time A of the last accepted pulse, the interval I and the pulse count at A. -/
structure LockRef where
  a : Micros
  i : Micros
  count : BitVec 16
  deriving DecidableEq, Repr

/-- The schedule of the current interval (R111): its origin, the phase of the next strobe, the pulse count its
strobes carry (R114), and the number m of the prediction whose window closes next (R112, R113). -/
structure Schedule where
  origin : Micros
  phase : BitVec 16
  count : BitVec 16
  prediction : Nat
  deriving DecidableEq, Repr

/-- TB (R103). `strobeIssued` says whether a strobe has been issued since part reset (R105, R107). -/
structure TimeBase where
  counter : Micros
  strobeNumber : BitVec 8
  strobing : Bool
  refTime : Option Micros
  strobeIssued : Bool
  timing : Option Timing
  fallback : FallbackState
  rejectCount : BitVec 16
  lock : LockState
  run : AcquisitionRun
  lockRef : Option LockRef
  schedule : Option Schedule
  lockLost : Bool
  deriving DecidableEq, Repr

/-! ## Replies (section 11.4, 11.9) -/

/-- Result codes (section 11.9). -/
inductive Result where
  | ok | accepted | done | failed | granted | renewed | released | cancelled | queued | activated | empty | pass | fail
  | timeout | linkLost | noReply | notReady | frameError | unknownKind | badLength | outOfRange | notHolder
  | heldElsewhere | alreadyQueued | notOwner | noContext | portLimit | queueNotEmpty | busy | worn | invalidConfig
  | notPresent
  deriving DecidableEq, Repr

/-- An attention mask, or the truth of its sources (R179). -/
structure AttnSet where
  replyQueue : Bool
  watermark : Bool
  takeQueue : Bool
  condition : Bool
  deriving DecidableEq, Repr

/-- The default mask: REPLY_QUEUE alone (R179, R184). -/
def AttnSet.default : AttnSet := ⟨true, false, false, false⟩

/-- The cursor state of a history reply (R32). -/
structure CursorState where
  cursor : PubNum
  unread : BitVec 48
  watermark : BitVec 16
  skipTotal : BitVec 32
  deriving DecidableEq, Repr

/-- The lease outcome of a PORT_RESET (R183). -/
inductive LeaseOutcome where
  | none | released | cancelled
  deriving DecidableEq, Repr

/-- Link states (R86). -/
inductive LinkState where
  | absent | syncing | up | foreign | faulted
  deriving DecidableEq, Repr

/-- The kind of a head command (R80). -/
inductive CommandKind where
  | identify | selfTest
  deriving DecidableEq, Repr

/-- Who started a command (R94): the link itself, or a host request of a port with its tag. -/
inductive Origin where
  | internal
  | host (p : Port) (tag : Byte)
  deriving DecidableEq, Repr

/-- What a head command's end carries besides its result code (R99). -/
inductive CommandDetail where
  | none
  | identity (serial : BitVec 32) (model : BitVec 16)
  | failSet (axes : BitVec 6)
  deriving DecidableEq, Repr

/-- The last command result of a link (R99); a port of none is an internal origin. -/
structure CommandResult where
  kind : CommandKind
  origin : Option Port
  result : Result
  detail : CommandDetail
  deriving DecidableEq, Repr

/-- The command in a BUSY slot (R94). -/
structure Command where
  kind : CommandKind
  origin : Origin
  forgotten : Bool
  sentAt : Micros
  deriving DecidableEq, Repr

/-- A downstream message (R80). -/
inductive DownMessage where
  | strobe (number : BitVec 8)
  | command (kind : CommandKind)
  deriving DecidableEq, Repr

/-- A link controller (R86). `downstream` holds the messages issued down the line and not yet sent. -/
structure Link where
  state : LinkState
  tally : Nat
  goodCount : Nat
  confirmed : Bool
  silence : Nat
  lastStatus : Option Byte
  slot : Option Command
  lastResult : Option CommandResult
  accepted : BitVec 32
  crcErrors : BitVec 32
  lates : BitVec 32
  mismatches : BitVec 32
  missed : BitVec 32
  downstream : List DownMessage
  deriving DecidableEq, Repr

/-- Device states (R143). -/
inductive DeviceState where
  | starting | running
  deriving DecidableEq, Repr

/-- Store states (R143). -/
inductive StoreState where
  | loading | idle | erasing | writing | verifying
  deriving DecidableEq, Repr

/-- Slot validity (R141), UNKNOWN until the load ends (R143). -/
inductive SlotValidity where
  | blank | valid | invalid | unknown
  deriving DecidableEq, Repr

/-- Factory validity (R66), unknown until the load ends (R143). -/
inductive FactoryValidity where
  | valid | corrupt | unknown
  deriving DecidableEq, Repr

/-- Load outcomes (R143). -/
inductive LoadOutcome where
  | loaded | blank | corrupt | unknown
  deriving DecidableEq, Repr

/-- Window states of SEL (R42). -/
inductive WindowState where
  | none | opened | closed
  deriving DecidableEq, Repr

/-- Agreement states of the monitor (R60). -/
inductive Agreement where
  | agree | disagree
  deriving DecidableEq, Repr

/-- The sync state that TIME_READ reports (R117). -/
inductive SyncState where
  | none | edge | fallback | unlocked | acquiring | locked | holdover
  deriving DecidableEq, Repr

/-- What TIME_READ reports (R117). Timing and sync state are absent while no timing is in force. -/
structure TimeReport where
  time : Micros
  newest : Option PubNum
  timing : Option Timing
  sync : Option SyncState
  i : Micros
  rejects : BitVec 16
  deriving DecidableEq, Repr

/-- What DELTA_STATUS reports (R19). -/
structure ContextReport where
  state : CtxState
  label : BitVec 16
  period : BitVec 16
  sequence : BitVec 16
  start : PubNum
  position : PubNum
  depth : Nat
  first : Option PubNum
  last : Option PubNum
  count : BitVec 32
  voids : BitVec 32
  skipped : BitVec 32
  flags : DeltaFlags
  deriving DecidableEq, Repr

/-- A slot with a generation and the epoch of a snapshot: of a commit in flight, or of the last one (R154). -/
structure CommitReport where
  target : Slot
  generation : BitVec 32
  epoch : BitVec 16
  deriving DecidableEq, Repr

/-- How the last commit ended (R143). -/
structure LastCommit where
  succeeded : Bool
  report : CommitReport
  deriving DecidableEq, Repr

/-- What STORE_STATUS reports (R154). -/
structure StoreReport where
  state : StoreState
  current : Option Slot
  loadOutcome : LoadOutcome
  validity : Vector SlotValidity 2
  generation : Vector (BitVec 32) 2
  writes : Vector (BitVec 32) 2
  inFlight : Option CommitReport
  last : Option LastCommit
  epoch : BitVec 16
  deriving DecidableEq, Repr

/-- What the health snapshot carries of one link (R167). -/
structure LinkReport where
  state : LinkState
  tally : Nat
  goodCount : Nat
  silence : Nat
  lastStatus : Option Byte
  accepted : BitVec 32
  crcErrors : BitVec 32
  lates : BitVec 32
  mismatches : BitVec 32
  missed : BitVec 32
  lastResult : Option CommandResult
  deriving DecidableEq, Repr

/-- The health snapshot (R167). The mode and sync state are absent while no timing is in force. -/
structure HealthReport where
  device : DeviceState
  time : Micros
  links : Pair LinkReport
  source : Option Head
  heldCount : BitVec 16
  agreement : Agreement
  agreementCount : Nat
  sync : Option (SyncMode × SyncState)
  i : Micros
  rejects : BitVec 16
  store : StoreState
  current : Option Slot
  slotValidity : Vector SlotValidity 2
  loadOutcome : LoadOutcome
  factoryValidity : Pair FactoryValidity
  holder : Option Port
  waiters : List Port
  contexts : Vector (Option (CtxState × Port)) 8
  counts : Vector (BitVec 16) 27
  deriving DecidableEq, Repr

/-- A sensor of a head (R136). -/
inductive Sensor where
  | gyro | accel
  deriving DecidableEq, Repr

/-- Why ACTIVATE refuses a staged image (R136); the row is 0 for x, 1 for y, 2 for z. -/
inductive ConfigFault where
  | scaleFactor
  | alignmentDiagonal (x : Head) (sensor : Sensor) (row : Fin 3)
  deriving DecidableEq, Repr

/-- The groups in which two images can differ (R135): of head A, of head B, and of the image. -/
structure GroupDiff where
  gyroTrim : Bool
  accelTrim : Bool
  gyroAlign : Bool
  accelAlign : Bool
  deriving DecidableEq, Repr

structure ImageDiff where
  user : Pair GroupDiff
  source : Bool
  thresholds : Bool
  timing : Bool
  deriving DecidableEq, Repr

/-- Reply payloads (section 11.4). -/
inductive Payload where
  | none
  | frameError (reason : FrameReason) (received : Byte)
  | identify
  | portReset (discarded freed : Nat) (lease : LeaseOutcome) (commits commands : Nat)
  | attention (mask truth : AttnSet)
  | conditions (members : List Cond)
  | health (report : HealthReport)
  | time (report : TimeReport)
  | histRead (records : List Publication) (skipped : BitVec 16) (cursor : CursorState)
  | histPeek (cursor : CursorState) (newest : Publication)
  | cursor (cursor : CursorState)
  | deltaOpened (c : CtxNum) (start : PubNum)
  | deltaWalked (c : CtxNum) (start position : PubNum) (count skipped : BitVec 32) (depth : Nat)
  | deltaTaken (record : DeltaRecord)
  | deltaCollected (depth : Nat) (record : DeltaRecord)
  | deltaClosed (discarded : Nat) (record : DeltaRecord)
  | deltaStatus (report : ContextReport)
  | calFactory (x : Head) (valid : Bool) (record : FactoryRecord)
  | calUser (x : Head) (epoch : BitVec 16) (record : UserRecord)
  | head (x : Head)
  | identified (x : Head) (serial : BitVec 32) (model : BitVec 16)
  | tested (x : Head) (failSet : BitVec 6)
  | leasePeriod (period : BitVec 16) (epoch : BitVec 16)
  | leaseHolder (holder : Port)
  | leaseQueued (holder : Port) (position : Nat)
  | epoch (epoch : BitVec 16)
  | fieldIndex (index : Nat)
  | stagedImage (image : Image) (epoch : BitVec 16) (diff : ImageDiff)
  | invalidConfig (reason : ConfigFault)
  | commit (report : CommitReport)
  | storeStatus (report : StoreReport)
  deriving DecidableEq, Repr

/-- A reply as it is made: its kind echo (bit 7 the completion marker), tag echo, result and payload (section 11.2). -/
structure Reply where
  echo : Byte
  tag : Byte
  result : Result
  payload : Payload
  deriving DecidableEq, Repr

/-- A reply in a port's queue, with the number of transactions that have sent it (R170). -/
structure QueuedReply where
  reply : Reply
  sent : BitVec 8
  deriving DecidableEq, Repr

/-- A transaction in progress (R170): whether the reply sent in it is the queue's head, the bytes of that reply as
formed when chip select fell, and whether it began less than 2 µs after the one before (R172). -/
structure Transaction where
  queued : Bool
  bytes : List Byte
  early : Bool
  deriving DecidableEq, Repr

/-- A port controller (R184), with the chip select pin, the bytes that data out carried in the transaction that ended last
(R169; the model's own record of an output, log 36), and the counter value at which that transaction ended, from which the
spacing test of R172 is made (log 12). -/
structure PortState where
  csLow : Bool
  txn : Option Transaction
  queue : List QueuedReply
  mask : AttnSet
  sent : List Byte
  lastEnd : Option Micros
  deriving DecidableEq, Repr

/-! ## Selector (R42) -/

structure Selector where
  window : WindowState
  current : Option Strobe
  previous : Option (BitVec 8)
  expected : Pair Bool
  frames : Pair (Option SampleFrame)
  counter : PubNum
  previousTime : Option Micros
  previousEpoch : Option (BitVec 16)
  source : Option Head
  lastValues : Option (Triple (BitVec 32) × Triple (BitVec 32))
  heldCount : BitVec 16
  counted : Option Head
  holdOff : Nat
  agreement : Agreement
  agreementCount : Nat
  deriving DecidableEq, Repr

/-! ## Configuration unit (R119, R120, R122) -/

structure Lease where
  holder : Port
  expiry : Micros
  staged : Image
  deriving DecidableEq, Repr

structure Waiter where
  port : Port
  tag : Byte
  period : BitVec 16
  deriving DecidableEq, Repr

/-- CFG. A lease of none is FREE. -/
structure ConfigUnit where
  active : Image
  epoch : BitVec 16
  lease : Option Lease
  waiters : List Waiter
  deriving DecidableEq, Repr

/-! ## Store (R141, R143) -/

/-- A user slot of the medium: each field written or erased (R141). The image is kept as the medium holds it, 208
bytes (section 11.7). -/
structure SlotContents where
  generation : Option (BitVec 32)
  image : Option (List Byte)
  check : Option (BitVec 32)
  deriving DecidableEq, Repr

/-- The non-volatile medium (R140 to R142). A factory record of none cannot be read, at this load and at every later one:
DESIGN CHOICE (log 31), since R66 and R140 do not say whether the next load tries again with success. -/
structure Medium where
  factory : Pair (Option FactoryRecord)
  slots : Vector SlotContents 2
  writes : Vector (BitVec 32) 2
  deriving DecidableEq, Repr

/-- A commit in flight (R143, R148). -/
structure Commit where
  port : Port
  tag : Byte
  forgotten : Bool
  snapshot : Image
  report : CommitReport
  deriving DecidableEq, Repr

/-- STORE (R143). `phaseStart` is the counter value at which the present phase of a commit began, and `readBack`
what was read back of the target at the end of WRITING (R149). -/
structure Store where
  device : DeviceState
  state : StoreState
  phaseStart : Micros
  factory : Pair (Option FactoryRecord)
  factoryValidity : Pair FactoryValidity
  slotValidity : Vector SlotValidity 2
  slotGeneration : Vector (BitVec 32) 2
  current : Option Slot
  loadOutcome : LoadOutcome
  commit : Option Commit
  readBack : Option SlotContents
  last : Option LastCommit
  deriving DecidableEq, Repr

/-! ## Conditions (R157, R162) -/

/-- COND. A set is kept as the list of its members in ascending code order (section 11.1), each at most once. -/
structure Conditions where
  sets : Vector (List Cond) 4
  counts : Vector (BitVec 16) 27
  deriving DecidableEq, Repr

/-! ## Arrivals in flight between blocks -/

/-- SEL's level states as handed to COND with a publication (R63, R161). -/
structure LevelReport where
  held : Bool
  disagree : Bool
  deriving DecidableEq, Repr

/-- A COMPLETION reply on its way to a port (R176). -/
structure Completion where
  port : Port
  reply : Reply
  deriving DecidableEq, Repr

/-- Events issued by one block and not yet taken by another, each kind oldest first. -/
structure Arrivals where
  strobesToSel : List Strobe
  strobesToLink : Pair (List (BitVec 8))
  misses : Pair Nat
  appends : List Publication
  atDelta : List Publication
  atCond : List LevelReport
  drops : List PubNum
  completions : List Completion
  timings : List Timing
  deriving DecidableEq, Repr

/-! ## The whole hub -/

/-- Supply and reset (R153, R191). -/
inductive Power where
  | unpowered | heldInReset | running
  deriving DecidableEq, Repr

structure State where
  pending : List Instr
  power : Power
  tb : TimeBase
  links : Pair Link
  sel : Selector
  hist : History
  delta : DeltaEngine
  ports : Vector PortState 4
  cfg : ConfigUnit
  store : Store
  medium : Medium
  cond : Conditions
  arrivals : Arrivals
  deriving DecidableEq, Repr

/-- Why the hub stops. The manual gives the hub no stop, so no meaning raises this. -/
inductive Fault where
  /-- Raised by nothing: the manual describes no event after which the hub stops. Safe. -/
  | stopped
  deriving DecidableEq, Repr

/-- Why a command has no meaning. -/
inductive Refusal where
  /-- Raised by an arm of exec whose command has no meaning in this model; safe, since nothing is claimed of it. -/
  | notModelled (mnemonic : String)
  deriving DecidableEq, Repr

/-! ## After reset -/

/-- TB at part reset (R103). -/
def TimeBase.reset : TimeBase :=
  { counter := 0#48, strobeNumber := 0#8, strobing := false, refTime := none, strobeIssued := false, timing := none,
    fallback := .edge, rejectCount := 0#16, lock := .unlocked, run := AcquisitionRun.empty, lockRef := none,
    schedule := none, lockLost := false }

/-- A link at part reset (R86). -/
def Link.reset : Link :=
  { state := .absent, tally := 0, goodCount := 0, confirmed := false, silence := 0, lastStatus := none, slot := none,
    lastResult := none, accepted := 0#32, crcErrors := 0#32, lates := 0#32, mismatches := 0#32, missed := 0#32,
    downstream := [] }

/-- SEL at part reset (R42). -/
def Selector.reset : Selector :=
  { window := .none, current := none, previous := none, expected := ⟨false, false⟩, frames := ⟨none, none⟩,
    counter := 0#48, previousTime := none, previousEpoch := none, source := none, lastValues := none,
    heldCount := 0#16, counted := none, holdOff := 0, agreement := .agree, agreementCount := 0 }

/-- A port's history state at part reset (R28). -/
def Reader.reset : Reader := ⟨0#48, 0#16, 0#32, 0#16, false⟩

/-- HIST at part reset (R40). -/
def History.reset : History := ⟨[], 0#48, Vector.replicate 4 Reader.reset⟩

/-- DELTA at part reset (R23). -/
def DeltaEngine.reset : DeltaEngine := ⟨Vector.replicate 8 none, none⟩

/-- A port at part reset (R184). The level of the chip select pin is the host's: DESIGN CHOICE (log 9). The record of data
out is empty: DESIGN CHOICE (log 36). No transaction has ended: DEDUCED (log 12). -/
def PortState.reset : PortState := ⟨false, none, [], AttnSet.default, [], none⟩

/-- CFG at part reset (R122, R139). The active image is placed by the load: DESIGN CHOICE (log 8). -/
def ConfigUnit.reset : ConfigUnit := ⟨Image.default, 0#16, none, []⟩

/-- STORE at part reset (R143). The kept factory copies are none until the load, the value of a record that could not be read:
DESIGN CHOICE (log 38). So are the start of a phase, 0, and the fields read back, none: DESIGN CHOICE (log 10). -/
def Store.reset : Store :=
  { device := .starting, state := .loading, phaseStart := 0#48, factory := ⟨none, none⟩,
    factoryValidity := ⟨.unknown, .unknown⟩, slotValidity := Vector.replicate 2 .unknown,
    slotGeneration := Vector.replicate 2 0#32, current := none, loadOutcome := .unknown, commit := none,
    readBack := none, last := none }

/-- COND at part reset (R168). -/
def Conditions.reset : Conditions := ⟨Vector.replicate 4 [], Vector.replicate 27 0#16⟩

/-- Nothing in flight. -/
def Arrivals.none : Arrivals := ⟨[], ⟨[], []⟩, ⟨0, 0⟩, [], [], [], [], [], []⟩

/-- The factory record of a newly fitted hub, DESIGN CHOICE (log 7): usable with any head, no bias, 64.0 on the gyro
diagonal and 100.0 on the accel diagonal (the heads of 04 sections 4.7 and 4.8), with the check that matches. -/
def FactoryRecord.fitted : FactoryRecord :=
  { serial := 0#32, gyroBias := Triple.const 0#24,
    gyroMatrix := ⟨⟨0x40000000#32, 0#32, 0#32⟩, ⟨0#32, 0x40000000#32, 0#32⟩, ⟨0#32, 0#32, 0x40000000#32⟩⟩,
    accelBias := Triple.const 0#24,
    accelMatrix := ⟨⟨0x64000000#32, 0#32, 0#32⟩, ⟨0#32, 0x64000000#32, 0#32⟩, ⟨0#32, 0#32, 0x64000000#32⟩⟩,
    check := 0xB759#16 }

/-- The medium of a hub that has never written a slot: DESIGN CHOICE (log 7). -/
def Medium.fresh : Medium :=
  { factory := ⟨some FactoryRecord.fitted, some FactoryRecord.fitted⟩,
    slots := Vector.replicate 2 ⟨none, none, none⟩, writes := Vector.replicate 2 0#32 }

/-- The hub right after a part reset is taken, RESET not yet released (R191, log 6). -/
def State.reset : State :=
  { pending := [], power := .heldInReset, tb := TimeBase.reset, links := ⟨Link.reset, Link.reset⟩,
    sel := Selector.reset, hist := History.reset, delta := DeltaEngine.reset,
    ports := Vector.replicate 4 PortState.reset, cfg := ConfigUnit.reset, store := Store.reset,
    medium := Medium.fresh, cond := Conditions.reset, arrivals := Arrivals.none }

end Sys2Proof.Machine
end

