-- ==== Sys2Proof/Machine/Layouts.lean ====
section
/-! DEFINITION. Codes and byte layouts of chapter 11: what each reply, record and image is on the wire. -/

namespace Sys2Proof.Machine

/-! ## Codes (section 11.9) -/

def Head.code : Head → Byte
  | .A => 0#8
  | .B => 1#8

def Result.code : Result → Byte
  | .ok => 0x00#8
  | .accepted => 0x01#8
  | .done => 0x02#8
  | .failed => 0x03#8
  | .granted => 0x04#8
  | .renewed => 0x05#8
  | .released => 0x06#8
  | .cancelled => 0x07#8
  | .queued => 0x08#8
  | .activated => 0x09#8
  | .empty => 0x0A#8
  | .pass => 0x0B#8
  | .fail => 0x0C#8
  | .timeout => 0x0D#8
  | .linkLost => 0x0E#8
  | .noReply => 0x10#8
  | .notReady => 0x11#8
  | .frameError => 0x12#8
  | .unknownKind => 0x13#8
  | .badLength => 0x14#8
  | .outOfRange => 0x15#8
  | .notHolder => 0x16#8
  | .heldElsewhere => 0x17#8
  | .alreadyQueued => 0x18#8
  | .notOwner => 0x19#8
  | .noContext => 0x1A#8
  | .portLimit => 0x1B#8
  | .queueNotEmpty => 0x1C#8
  | .busy => 0x1D#8
  | .worn => 0x1E#8
  | .invalidConfig => 0x1F#8
  | .notPresent => 0x20#8

/-- The index of a condition, 0 to 26, in ascending code order (section 11.7). -/
def Cond.index : Cond → Fin 27
  | .linkFault .A => 0
  | .linkFault .B => 1
  | .linkLost .A => 2
  | .linkLost .B => 3
  | .headSensor .A => 4
  | .headSensor .B => 5
  | .headForeign .A => 6
  | .headForeign .B => 7
  | .headSelfTestFail .A => 8
  | .headSelfTestFail .B => 9
  | .factoryCorrupt .A => 10
  | .factoryCorrupt .B => 11
  | .sourceSwitch => 12
  | .syncEdgeReject => 13
  | .scaleRange => 14
  | .storeWriteFail => 15
  | .configActivated => 16
  | .publishHeld => 17
  | .headDisagree => 18
  | .syncLost => 19
  | .syncUnlock => 20
  | .storeBlank => 21
  | .storeCorrupt => 22
  | .ringOverrun => 23
  | .leaseExpired => 24
  | .frameError => 25
  | .replyLost => 26

/-- The code of a condition (section 11.9): head conditions from 01h, other device conditions from 10h, port
conditions from 20h. -/
def Cond.code (c : Cond) : Byte :=
  let n := c.index.val
  if n < 12 then BitVec.ofNat 8 (n + 1)
  else if n < 23 then BitVec.ofNat 8 (n + 4)
  else BitVec.ofNat 8 (n + 9)

/-- The number a host writes and reads for a rate (section 11.3). -/
def Rate.code : Rate → BitVec 16
  | .r500 => 500#16
  | .r1000 => 1000#16
  | .r2000 => 2000#16
  | .r4000 => 4000#16

def Rate.ofCode (c : BitVec 16) : Option Rate :=
  if c = 500#16 then some .r500 else if c = 1000#16 then some .r1000 else if c = 2000#16 then some .r2000
  else if c = 4000#16 then some .r4000 else none

def SyncMode.code : SyncMode → Byte
  | .free => 0#8
  | .direct => 1#8
  | .scaled => 2#8

def SyncMode.ofCode (c : Byte) : Option SyncMode :=
  if c = 0#8 then some .free else if c = 1#8 then some .direct else if c = 2#8 then some .scaled else none

def SourceMode.code : SourceMode → Byte
  | .aOnly => 0#8
  | .bOnly => 1#8
  | .preferA => 2#8
  | .preferB => 3#8

def SourceMode.ofCode (c : Byte) : Option SourceMode :=
  if c = 0#8 then some .aOnly else if c = 1#8 then some .bOnly else if c = 2#8 then some .preferA
  else if c = 3#8 then some .preferB else none

def SyncState.code : SyncState → Byte
  | .none => 0#8
  | .edge => 1#8
  | .fallback => 2#8
  | .unlocked => 3#8
  | .acquiring => 4#8
  | .locked => 5#8
  | .holdover => 6#8

def DeviceState.code : DeviceState → Byte
  | .starting => 0#8
  | .running => 1#8

def LinkState.code : LinkState → Byte
  | .absent => 0#8
  | .syncing => 1#8
  | .up => 2#8
  | .foreign => 3#8
  | .faulted => 4#8

def CtxState.code : CtxState → Byte
  | .backfilling => 1#8
  | .opened => 2#8

def Agreement.code : Agreement → Byte
  | .agree => 0#8
  | .disagree => 1#8

def StoreState.code : StoreState → Byte
  | .loading => 0#8
  | .idle => 1#8
  | .erasing => 2#8
  | .writing => 3#8
  | .verifying => 4#8

def SlotValidity.code : SlotValidity → Byte
  | .blank => 0#8
  | .valid => 1#8
  | .invalid => 2#8
  | .unknown => 3#8

def FactoryValidity.code : FactoryValidity → Byte
  | .valid => 1#8
  | .corrupt => 2#8
  | .unknown => 3#8

def LoadOutcome.code : LoadOutcome → Byte
  | .loaded => 0#8
  | .blank => 1#8
  | .corrupt => 2#8
  | .unknown => 3#8

def LeaseOutcome.code : LeaseOutcome → Byte
  | .none => 0#8
  | .released => 1#8
  | .cancelled => 2#8

def RecordKind.code : RecordKind → Nat
  | .manual => 1
  | .auto => 2
  | .closing => 3

def CommandKind.code : CommandKind → Byte
  | .identify => 1#8
  | .selfTest => 2#8

/-- The source of a publication (section 11.5): 0 NONE, 1 A, 2 B. -/
def sourceCode : Option Head → Nat
  | none => 0
  | some .A => 1
  | some .B => 2

/-- A slot or port number, FFh for none (section 11.9). -/
def numberOrFF : Option Nat → Byte
  | none => 0xFF#8
  | some n => BitVec.ofNat 8 n

/-! ## Sets as bits -/

/-- A bit of a packed field. -/
def bitAt (b : Bool) (n : Nat) : Nat := if b then 2 ^ n else 0

/-- Section 11.5. -/
def PubFlags.bits (f : PubFlags) : Nat :=
  bitAt f.held 6 + bitAt f.void 5 + bitAt f.suspect 4 + bitAt f.saturated 3 + bitAt f.sourceChange 2
    + bitAt f.epochChange 1 + bitAt f.syncFallback 0

/-- Section 11.6. -/
def DeltaFlags.bits (f : DeltaFlags) : Nat :=
  bitAt f.heldSeen 10 + bitAt f.voidSeen 9 + bitAt f.suspectSeen 8 + bitAt f.saturatedSeen 7
    + bitAt f.sourceChangeSeen 6 + bitAt f.epochSpan 5 + bitAt f.syncFallbackSeen 4 + bitAt f.sumSaturated 3
    + bitAt f.historyGap 2 + bitAt f.partialStart 1 + bitAt f.takeDeferred 0

/-- Section 11.3, SET_ATTENTION. -/
def AttnSet.bits (m : AttnSet) : Nat :=
  bitAt m.replyQueue 0 + bitAt m.watermark 1 + bitAt m.takeQueue 2 + bitAt m.condition 3

/-- The mask a byte names, if it names no source beyond the four (R180). -/
def AttnSet.ofByte (b : Byte) : Option AttnSet :=
  if b.toNat < 16 then some ⟨b.getLsbD 0, b.getLsbD 1, b.getLsbD 2, b.getLsbD 3⟩ else none

def GroupDiff.bits (d : GroupDiff) : Nat :=
  bitAt d.gyroTrim 0 + bitAt d.accelTrim 1 + bitAt d.gyroAlign 2 + bitAt d.accelAlign 3

/-- The difference set of STAGE_READ (section 11.4). -/
def ImageDiff.bits (d : ImageDiff) : Nat :=
  d.user.a.bits + 16 * d.user.b.bits + bitAt d.source 8 + bitAt d.thresholds 9 + bitAt d.timing 10

/-! ## Records -/

/-- An optional field: sent as zeros when absent (R185). -/
def optField {w : Nat} (n : Nat) (v : Option (BitVec w)) : List Byte := field n (v.getD 0#w)

def tripleBytes {w : Nat} (n : Nat) (t : Triple (BitVec w)) : List Byte := t.toList.flatMap (field n)

def matBytes {w : Nat} (n : Nat) (m : Mat3 (BitVec w)) : List Byte := (Mat3.toList m).flatMap (field n)

/-- The word of the source and the optional fields (R188). -/
def Publication.syncWord (p : Publication) : Nat :=
  sourceCode p.source * 2 ^ 30 + bitAt p.tag.isSome 29 + bitAt p.temp.isSome 28
    + ((p.tag.map SyncTag.phase).getD 0#16).toNat % 4096 * 2 ^ 16 + ((p.tag.map SyncTag.count).getD 0#16).toNat

/-- The 48 bytes of a publication record (R188). -/
def Publication.bytes (p : Publication) : List Byte :=
  field 6 p.number ++ field 6 p.time ++ field 3 p.interval ++ field 2 p.epoch ++ beBytes 1 p.flags.bits
    ++ beBytes 4 p.syncWord ++ optField 2 p.temp ++ tripleBytes 4 p.gyro ++ tripleBytes 4 p.accel

/-- The span of a delta record: last minus first, 0 when both are absent (R189). -/
def DeltaRecord.span (r : DeltaRecord) : PubNum :=
  match r.first, r.last with
  | some f, some l => l - f
  | _, _ => 0#48

/-- The 92 bytes of a delta record (R189). -/
def DeltaRecord.bytes (r : DeltaRecord) : List Byte :=
  beBytes 2 (r.ctx.val * 2 ^ 13 + r.kind.code * 2 ^ 11 + r.flags.bits) ++ field 2 r.label ++ field 2 r.sequence
    ++ optField 6 r.first ++ field 4 r.span ++ field 4 r.count ++ field 4 r.voids ++ field 2 r.skipped
    ++ field 6 r.startTime ++ field 6 r.endTime ++ tripleBytes 8 r.angle ++ tripleBytes 8 r.velocity
    ++ field 6 r.total

/-- The 94 bytes of a factory record that its check covers (section 11.7). -/
def FactoryRecord.body (r : FactoryRecord) : List Byte :=
  field 4 r.serial ++ tripleBytes 3 r.gyroBias ++ matBytes 4 r.gyroMatrix ++ tripleBytes 3 r.accelBias
    ++ matBytes 4 r.accelMatrix

/-- The 96 bytes of a factory record (section 11.7). -/
def FactoryRecord.bytes (r : FactoryRecord) : List Byte := r.body ++ field 2 r.check

/-- The factory record with every field 0 (R77). -/
def FactoryRecord.zero : FactoryRecord :=
  { serial := 0#32, gyroBias := Triple.const 0#24, gyroMatrix := Triple.const (Triple.const 0#32),
    accelBias := Triple.const 0#24, accelMatrix := Triple.const (Triple.const 0#32), check := 0#16 }

/-- The 96 bytes of a user record (section 11.7). -/
def UserRecord.bytes (r : UserRecord) : List Byte :=
  tripleBytes 4 r.gyroTrim ++ tripleBytes 4 r.accelTrim ++ matBytes 4 r.gyroAlign ++ matBytes 4 r.accelAlign

/-- The 208 bytes of an image (section 11.7). -/
def Image.bytes (i : Image) : List Byte :=
  i.user.a.bytes ++ i.user.b.bytes ++ [i.mode.code] ++ field 2 i.holdOff ++ field 4 i.gyroThreshold
    ++ field 4 i.accelThreshold ++ field 2 i.timing.rate.code ++ [i.timing.mode.code] ++ field 2 i.timing.scale

def tripleAt (bytes : List Byte) (at_ : Nat) : Triple (BitVec 32) := payloadTriple bytes at_

def matAt (bytes : List Byte) (at_ : Nat) : Mat3 (BitVec 32) :=
  ⟨tripleAt bytes at_, tripleAt bytes (at_ + 12), tripleAt bytes (at_ + 24)⟩

def UserRecord.ofBytes (bytes : List Byte) (at_ : Nat) : UserRecord :=
  ⟨tripleAt bytes at_, tripleAt bytes (at_ + 12), matAt bytes (at_ + 24), matAt bytes (at_ + 60)⟩

/-- The image that 208 bytes spell, when its codes are of their tables (section 11.7, R141). -/
def Image.ofBytes (bytes : List Byte) : Option Image :=
  if bytes.length = 208 then
    match SourceMode.ofCode (byteAt bytes 192), Rate.ofCode (payloadField 16 bytes 203 2),
        SyncMode.ofCode (byteAt bytes 205) with
    | some mode, some rate, some sync =>
      some
        { user := ⟨UserRecord.ofBytes bytes 0, UserRecord.ofBytes bytes 96⟩, mode := mode,
          holdOff := payloadField 16 bytes 193 2, gyroThreshold := payloadField 32 bytes 195 4,
          accelThreshold := payloadField 32 bytes 199 4, timing := ⟨rate, sync, payloadField 16 bytes 206 2⟩ }
    | _, _, _ => none
  else none

/-- The check of a slot: CRC-32 over the generation and the image (R141, R186). -/
def slotCheck (generation : BitVec 32) (image : List Byte) : BitVec 32 := crc32 (field 4 generation ++ image)

/-! ## Reports -/

def CursorState.bytes (c : CursorState) : List Byte :=
  field 6 c.cursor ++ field 2 c.unread ++ field 2 c.watermark ++ field 4 c.skipTotal

/-- The payload of TIME_READ (section 11.4). R117 returns S as well, for which that layout has no field: S stays in the
report and is not sent, DEDUCED (log 33). -/
def TimeReport.bytes (r : TimeReport) : List Byte :=
  field 6 r.time ++ [if r.newest.isSome then 1#8 else 0#8] ++ optField 6 r.newest
    ++ optField 2 (r.timing.map fun t => t.rate.code)
    ++ [(r.timing.map fun t => t.mode.code).getD 0xFF#8, (r.sync.map SyncState.code).getD 0xFF#8]
    ++ field 4 r.i ++ field 2 r.rejects

def ContextReport.bytes (r : ContextReport) : List Byte :=
  [r.state.code] ++ field 2 r.label ++ field 2 r.period ++ field 2 r.sequence ++ field 6 r.start ++ field 6 r.position
    ++ beBytes 1 r.depth ++ optField 6 r.first ++ optField 6 r.last ++ field 4 r.count ++ field 4 r.voids
    ++ field 4 r.skipped ++ beBytes 2 r.flags.bits

def CommitReport.bytes (r : CommitReport) : List Byte :=
  beBytes 1 r.target.val ++ field 4 r.generation ++ field 2 r.epoch

def slotBytes (v : SlotValidity) (g w : BitVec 32) : List Byte := [v.code] ++ field 4 g ++ field 4 w

/-- A commit in flight or a last result: its code, then its report, zeros without one (section 11.4). -/
def commitBytes (code : Byte) (r : Option CommitReport) : List Byte :=
  code :: (r.map CommitReport.bytes).getD (List.replicate 7 0#8)

def StoreReport.bytes (r : StoreReport) : List Byte :=
  [r.state.code, numberOrFF (r.current.map Fin.val), r.loadOutcome.code]
    ++ slotBytes r.validity[0] r.generation[0] r.writes[0] ++ slotBytes r.validity[1] r.generation[1] r.writes[1]
    ++ commitBytes (if r.inFlight.isSome then 1#8 else 0#8) r.inFlight
    ++ commitBytes (match r.last with | none => 0#8 | some l => if l.succeeded then 1#8 else 2#8) (r.last.map LastCommit.report)
    ++ field 2 r.epoch

/-- The six bytes of detail of a command result (section 11.7). -/
def CommandDetail.bytes : CommandDetail → List Byte
  | .none => List.replicate 6 0#8
  | .identity serial model => field 4 serial ++ field 2 model
  | .failSet axes => field 1 axes ++ List.replicate 5 0#8

/-- A last command result: kind, origin (FEh internal), result code, detail; zeros without one (section 11.7). -/
def commandResultBytes : Option CommandResult → List Byte
  | none => List.replicate 9 0#8
  | some c =>
    [c.kind.code, match c.origin with | none => 0xFE#8 | some p => BitVec.ofNat 8 p.val, c.result.code] ++ c.detail.bytes

/-- The 35 bytes of a link in the snapshot (section 11.7). -/
def LinkReport.bytes (l : LinkReport) : List Byte :=
  [l.state.code] ++ beBytes 1 l.tally ++ beBytes 1 l.goodCount ++ beBytes 1 l.silence
    ++ [if l.lastStatus.isSome then 1#8 else 0#8] ++ optField 1 l.lastStatus
    ++ field 4 l.accepted ++ field 4 l.crcErrors ++ field 4 l.lates ++ field 4 l.mismatches ++ field 4 l.missed
    ++ commandResultBytes l.lastResult

/-- One byte for an entry of the context table (section 11.7). -/
def contextByte : Option (CtxState × Port) → Byte
  | none => 0x0F#8
  | some (st, p) => st.code * 16#8 + BitVec.ofNat 8 p.val

/-- The 164 bytes of the health snapshot (section 11.7). Sections 11.7 and 11.9 give the active source no code: it is sent
with the codes of section 11.5, 0 NONE, 1 A, 2 B, DESIGN CHOICE (log 20). -/
def HealthReport.bytes (h : HealthReport) : List Byte :=
  [h.device.code] ++ field 6 h.time ++ h.links.a.bytes ++ h.links.b.bytes
    ++ beBytes 1 (sourceCode h.source) ++ field 2 h.heldCount ++ [h.agreement.code] ++ beBytes 1 h.agreementCount
    ++ [match h.sync with | none => 0xFF#8 | some (m, _) => m.code,
        match h.sync with | none => 0xFF#8 | some (_, st) => st.code]
    ++ field 4 h.i ++ field 2 h.rejects
    ++ [h.store.code, numberOrFF (h.current.map Fin.val), h.slotValidity[0].code, h.slotValidity[1].code,
        h.loadOutcome.code, h.factoryValidity.a.code, h.factoryValidity.b.code]
    ++ [numberOrFF (h.holder.map Fin.val), BitVec.ofNat 8 h.waiters.length]
    ++ ((h.waiters.map fun p => BitVec.ofNat 8 p.val) ++ List.replicate 3 0#8).take 3
    ++ h.contexts.toList.map contextByte
    ++ h.counts.toList.flatMap (field 2)

def ConfigFault.bytes : ConfigFault → List Byte
  | .scaleFactor => [1#8, 0#8, 0#8, 0#8]
  | .alignmentDiagonal x sensor row =>
    [2#8, Head.code x, match sensor with | .gyro => 0#8 | .accel => 1#8, BitVec.ofNat 8 row.val]

/-- The payload of a reply (section 11.4). -/
def Payload.bytes : Payload → List Byte
  | .none => []
  | .frameError reason received => [reason.code, received]
  | .identify =>
    field 2 Config.vendorCode ++ field 2 Config.partCode ++ field 1 Config.siliconRevision ++ field 8 Config.hubSerial
  | .portReset discarded freed lease commits commands =>
    beBytes 1 discarded ++ beBytes 1 freed ++ [lease.code] ++ beBytes 1 commits ++ beBytes 1 commands
  | .attention mask truth => beBytes 1 mask.bits ++ beBytes 1 truth.bits
  | .conditions members => beBytes 1 members.length ++ members.map Cond.code
  | .health report => report.bytes
  | .time report => report.bytes
  | .histRead records skipped cs =>
    beBytes 1 records.length ++ field 2 skipped ++ cs.bytes ++ records.flatMap Publication.bytes
  | .histPeek cs newest => cs.bytes ++ newest.bytes
  | .cursor cs => cs.bytes
  | .deltaOpened c start => beBytes 1 c.val ++ field 6 start
  | .deltaWalked c start position count skipped depth =>
    beBytes 1 c.val ++ field 6 start ++ field 6 position ++ field 4 count ++ field 4 skipped ++ beBytes 1 depth
  | .deltaTaken record => record.bytes
  | .deltaCollected depth record => beBytes 1 depth ++ record.bytes
  | .deltaClosed discarded record => beBytes 1 discarded ++ record.bytes
  | .deltaStatus report => report.bytes
  | .calFactory x valid record => [Head.code x, if valid then 1#8 else 2#8] ++ record.bytes
  | .calUser x e record => [Head.code x] ++ field 2 e ++ record.bytes
  | .head x => [Head.code x]
  | .identified x serial model => [Head.code x] ++ field 4 serial ++ field 2 model
  | .tested x failSet => [Head.code x] ++ field 1 failSet
  | .leasePeriod period e => field 2 period ++ field 2 e
  | .leaseHolder holder => beBytes 1 holder.val
  | .leaseQueued holder position => beBytes 1 holder.val ++ beBytes 1 position
  | .epoch e => field 2 e
  | .fieldIndex index => beBytes 1 index
  | .stagedImage image e diff => image.bytes ++ field 2 e ++ beBytes 2 diff.bits
  | .invalidConfig reason => reason.bytes
  | .commit report => report.bytes
  | .storeStatus report => report.bytes

/-- A reply on the wire (section 11.2), formed with its sent count and status summary; the check is computed over
every byte before it (R170). -/
def Reply.wire (r : Reply) (sent : BitVec 8) (status : BitVec 16) : List Byte :=
  sealed ([r.echo, r.tag, r.result.code, sent] ++ field 2 status ++ beBytes 1 r.payload.bytes.length ++ r.payload.bytes)

/-- The filler reply (R170). -/
def Reply.filler : Reply := ⟨0#8, 0#8, .noReply, .none⟩

/-- A downstream message on the line (section 11.8). -/
def DownMessage.wire : DownMessage → List Byte
  | .strobe number => sealed [0x81#8, number]
  | .command kind => sealed [0x82#8, kind.code, 0#8]

end Sys2Proof.Machine
end

