-- ==== Sys2Proof/Machine/Operands.lean ====
section
/-! DEFINITION. Operand forms: the codes that request fields carry, and the ranges their owning rules check (R185). -/

namespace Sys2Proof.Machine

/-- A head field: 0 for A, 1 for B (section 11.3). -/
def headOf (b : Byte) : Option Head := if b = 0#8 then some .A else if b = 1#8 then some .B else none

/-- A context field: 0 to 7 (R14). -/
def contextOf (b : Byte) : Option CtxNum := if h : b.toNat < 8 then some ⟨b.toNat, h⟩ else none

/-- The forms of HIST_SEEK (R36). -/
inductive SeekForm where
  | oldest | newest | next | absolute
  deriving DecidableEq, Repr

def seekFormOf (b : Byte) : Option SeekForm :=
  if b = 0#8 then some .oldest else if b = 1#8 then some .newest else if b = 2#8 then some .next
  else if b = 3#8 then some .absolute else none

/-- The start forms of DELTA_OPEN (R15). -/
inductive StartForm where
  | next | absolute
  deriving DecidableEq, Repr

def startFormOf (b : Byte) : Option StartForm :=
  if b = 0#8 then some .next else if b = 1#8 then some .absolute else none

/-- The forms of CAL_READ (R76). -/
inductive CalForm where
  | factory | active | staged
  deriving DecidableEq, Repr

def calFormOf (b : Byte) : Option CalForm :=
  if b = 0#8 then some .factory else if b = 1#8 then some .active else if b = 2#8 then some .staged else none

/-- The groups of STAGE_CAL (R132). -/
inductive CalGroup where
  | gyroBias | accelBias | gyroMatrix | accelMatrix
  deriving DecidableEq, Repr

def calGroupOf (b : Byte) : Option CalGroup :=
  if b = 0#8 then some .gyroBias else if b = 1#8 then some .accelBias else if b = 2#8 then some .gyroMatrix
  else if b = 3#8 then some .accelMatrix else none

/-- Whether a signed value lies within ±`limit`. -/
def within (limit : Nat) (v : BitVec 32) : Bool := v.toInt.natAbs ≤ limit

/-- The limit of each value of a group (R69, R132): ±100 °/s, ±10 g, ±(2^31 − 1). -/
def CalGroup.limit : CalGroup → Nat
  | .gyroBias => 6553600
  | .accelBias => 655360
  | .gyroMatrix => 2147483647
  | .accelMatrix => 2147483647

/-- The values of a STAGE_CAL that are examined: three for a bias, nine for a matrix (R132). -/
def CalGroup.examined (g : CalGroup) (values : Mat3 (BitVec 32)) : List (BitVec 32) :=
  match g with
  | .gyroBias | .accelBias => values.x.toList
  | .gyroMatrix | .accelMatrix => Mat3.toList values

/-- The field index of the first examined value outside its range, the values being fields 3 to 11 (R132). -/
def CalGroup.firstBad (g : CalGroup) (values : Mat3 (BitVec 32)) : Option Nat :=
  ((g.examined values).findIdx? fun v => ¬ within g.limit v).map (· + 3)

/-- A user record with one group replaced (R132). -/
def UserRecord.withGroup (u : UserRecord) (g : CalGroup) (values : Mat3 (BitVec 32)) : UserRecord :=
  match g with
  | .gyroBias => { u with gyroTrim := values.x }
  | .accelBias => { u with accelTrim := values.x }
  | .gyroMatrix => { u with gyroAlign := values }
  | .accelMatrix => { u with accelAlign := values }

/-- Largest threshold (R119, R133): 2^31 − 1. -/
def thresholdLimit : Nat := 2147483647

/-- Whether every field of a user record lies within R69. -/
def UserRecord.inRange (u : UserRecord) : Bool :=
  u.gyroTrim.toList.all (within CalGroup.gyroBias.limit) && u.accelTrim.toList.all (within CalGroup.accelBias.limit)
    && (Mat3.toList u.gyroAlign).all (within CalGroup.gyroMatrix.limit)
    && (Mat3.toList u.accelAlign).all (within CalGroup.accelMatrix.limit)

/-- The row of the first zero diagonal coefficient of an alignment matrix, in the order x, y, z (R136). -/
def zeroDiagonal (m : Mat3 (BitVec 32)) : Option (Fin 3) :=
  if m.x.x = 0#32 then some 0 else if m.y.y = 0#32 then some 1 else if m.z.z = 0#32 then some 2 else none

/-- Whether S may stand in an active image with this sync mode (R119). -/
def Timing.scaleValid (t : Timing) : Bool :=
  t.mode ≠ .scaled || (1 ≤ t.scale.toNat && t.scale.toNat ≤ 4000)

/-- The validation of R136: the first check that fails, in order. -/
def Image.fault (i : Image) : Option ConfigFault :=
  if ¬ i.timing.scaleValid then some .scaleFactor
  else
    ((zeroDiagonal i.user.a.gyroAlign).map (ConfigFault.alignmentDiagonal .A .gyro)).or
      (((zeroDiagonal i.user.a.accelAlign).map (ConfigFault.alignmentDiagonal .A .accel)).or
        (((zeroDiagonal i.user.b.gyroAlign).map (ConfigFault.alignmentDiagonal .B .gyro)).or
          ((zeroDiagonal i.user.b.accelAlign).map (ConfigFault.alignmentDiagonal .B .accel))))

/-- Whether every item of an image lies within the ranges of an active image (R119). The codes are in range by
the type. -/
def Image.inRange (i : Image) : Bool :=
  i.user.a.inRange && i.user.b.inRange && i.gyroThreshold.toNat ≤ thresholdLimit
    && i.accelThreshold.toNat ≤ thresholdLimit && i.fault.isNone

def UserRecord.diff (u v : UserRecord) : GroupDiff :=
  ⟨u.gyroTrim ≠ v.gyroTrim, u.accelTrim ≠ v.accelTrim, u.gyroAlign ≠ v.gyroAlign, u.accelAlign ≠ v.accelAlign⟩

/-- The groups in which two images differ (R135). -/
def Image.diff (i j : Image) : ImageDiff :=
  { user := ⟨i.user.a.diff j.user.a, i.user.b.diff j.user.b⟩,
    source := i.mode ≠ j.mode || i.holdOff ≠ j.holdOff,
    thresholds := i.gyroThreshold ≠ j.gyroThreshold || i.accelThreshold ≠ j.accelThreshold,
    timing := i.timing ≠ j.timing }

/-- The nominal period of a rate in microseconds (R104). -/
def Rate.period : Rate → Nat
  | .r500 => 2000
  | .r1000 => 1000
  | .r2000 => 500
  | .r4000 => 250

end Sys2Proof.Machine
end

