-- ==== Sys2Proof/Machine/Ops.lean ====
section
/-! DEFINITION. Operations that several blocks share: raising conditions (R157 to R162), the reply queue (R175,
R176), the end of a transaction (R171), issuing a strobe (R102), and time. -/

namespace Sys2Proof.Machine

/-! ## Outcomes -/

abbrev Out := Host.Outcome State Fault Refusal

/-- An event of the hub: outside part reset and with supply it does `f`; held in part reset or unpowered, nothing
is taken (R191). -/
def whileRunning (f : State → State) (s : State) : Out :=
  if s.power = .running then .next (f s) else .next s

/-! ## Time (R102) -/

def State.now (s : State) : Micros := s.tb.counter

/-- Microseconds from `t` to the present counter value, modulo 2^48 (00 section 7.3). -/
def State.since (s : State) (t : Micros) : Nat := (s.tb.counter - t).toNat

/-! ## Access to ports, links and contexts -/

def State.modifyPort (p : Port) (f : PortState → PortState) (s : State) : State :=
  { s with ports := s.ports.set p (f s.ports[p]) }

def State.modifyLink (x : Head) (f : Link → Link) (s : State) : State :=
  { s with links := s.links.set x (f (s.links.get x)) }

def State.modifyReader (p : Port) (f : Reader → Reader) (s : State) : State :=
  { s with hist := { s.hist with readers := s.hist.readers.set p (f s.hist.readers[p]) } }

def State.setContext (c : CtxNum) (v : Option Context) (s : State) : State :=
  { s with delta := { s.delta with contexts := s.delta.contexts.set c v } }

/-! ## Conditions -/

/-- A condition put into a set kept in ascending code order; a member already present stays (R157). -/
def insertCond (c : Cond) : List Cond → List Cond
  | [] => [c]
  | d :: ds => if c = d then d :: ds else if c.index < d.index then c :: d :: ds else d :: insertCond c ds

/-- One more occurrence of a condition (R162). -/
def Conditions.count (c : Cond) (k : Conditions) : Conditions :=
  { k with counts := k.counts.set c.index (satInc k.counts[c.index]) }

/-- A raise of a device condition: into all four sets, one occurrence (R158, R162). -/
def State.raise (c : Cond) (s : State) : State :=
  { s with cond := ({ s.cond with sets := s.cond.sets.map (insertCond c) } : Conditions).count c }

/-- A raise of a port condition: into one port's set, one occurrence (R158, R162). -/
def State.raisePort (c : Cond) (p : Port) (s : State) : State :=
  { s with cond := ({ s.cond with sets := s.cond.sets.set p (insertCond c s.cond.sets[p]) } : Conditions).count c }

def State.raiseIf (b : Bool) (c : Cond) (s : State) : State := if b then s.raise c else s

/-! ## Reply queues -/

/-- A reply reaches a port's queue: appended when fewer than four wait, otherwise discarded with REPLY_LOST
(R175, R176). -/
def State.appendReply (p : Port) (r : Reply) (s : State) : State :=
  if s.ports[p].queue.length < Config.replyDepth then
    s.modifyPort p fun q => { q with queue := q.queue ++ [⟨r, 0#8⟩] }
  else s.raisePort .replyLost p

/-- The reply to a request (section 11.2). -/
def Reply.immediate (k : RequestKind) (tag : Byte) (result : Result) (payload : Payload) : Reply :=
  ⟨k.code, tag, result, payload⟩

/-- A COMPLETION reply: the kind with the completion marker, bit 7 (R176). -/
def Reply.completion (k : RequestKind) (tag : Byte) (result : Result) (payload : Payload) : Reply :=
  ⟨k.code ||| 0x80#8, tag, result, payload⟩

/-- A block sends a COMPLETION reply to a port, where it arrives as an event of its own (R176). -/
def State.complete (p : Port) (r : Reply) (s : State) : State :=
  { s with arrivals := { s.arrivals with completions := s.arrivals.completions ++ [⟨p, r⟩] } }

/-! ## Transactions -/

/-- Whether a transaction that sent `t` and was clocked for so many bytes sent a queued reply whole (R171). -/
def Transaction.sentWhole (t : Transaction) (clocked : Nat) : Bool := t.queued && t.bytes.length ≤ clocked

/-- The bytes on data out in a transaction clocked for so many whole bytes (R169): the reply, cut off at the last of them,
or with 00h for each byte after its own last one. -/
def Transaction.dataOut (t : Transaction) (clocked : Nat) : List Byte :=
  t.bytes.take clocked ++ List.replicate (clocked - t.bytes.length) 0#8

/-- The end of a transaction (R171): chip select rises, the counter value stands in `lastEnd` and what was sent on data out
in `sent`, a queued reply that was sent whole leaves the queue, and then the request is taken. A port that waits for chip
select to rise takes nothing (R184). -/
def State.endTransaction (p : Port) (clocked : Nat) (take : Bool → State → State) (s : State) : State :=
  match s.ports[p].txn with
  | none => s.modifyPort p fun q => { q with csLow := false }
  | some t =>
    take t.early
      (s.modifyPort p fun q =>
        { q with
          csLow := false, txn := none, queue := if t.sentWhole clocked then q.queue.tail else q.queue,
          sent := t.dataOut clocked, lastEnd := some s.now })

/-- Bytes received, saturating at 255 (R172). -/
def receivedByte (n : Nat) : Byte := BitVec.ofNat 8 (min n 255)

/-- A FRAME_ERROR: the condition is raised on the port and the reply gives the reason and the bytes received
(R172). -/
def State.frameError (p : Port) (kind tag : Byte) (reason : FrameReason) (received : Nat) (s : State) : State :=
  (s.raisePort .frameError p).appendReply p ⟨kind, tag, .frameError, .frameError reason (receivedByte received)⟩

/-- The answer of a block to a request: the state after it, the result and the payload. -/
structure Answer where
  state : State
  result : Result
  payload : Payload

/-- Bytes clocked in the transaction of a request: header, payload, check and padding (section 11.2). -/
def Req.clocked (r : Req) (k : RequestKind) : Nat := 3 + k.length + 2 + r.padding

/-- A framed request of a known kind and the right length is taken: EARLY (R172), NOT_READY during STARTING (R173),
or carried out and answered in the same event (R174). -/
def takeRequest (r : Req) (k : RequestKind) (carry : State → Answer) (early : Bool) (s : State) : State :=
  if early then s.frameError r.port k.code r.tag .early (Req.clocked r k)
  else if s.store.device = .starting ∧ k.inStarting = false then
    s.appendReply r.port (Reply.immediate k r.tag .notReady .none)
  else
    let a := carry s
    a.state.appendReply r.port (Reply.immediate k r.tag a.result a.payload)

/-- The end of the transaction that carries a request. -/
def requestEnd (r : Req) (k : RequestKind) (carry : State → Answer) (s : State) : Out :=
  .next (s.endTransaction r.port (Req.clocked r k) (takeRequest r k carry))

/-- A refusal or a report that changes nothing. -/
def answer (s : State) (result : Result) (payload : Payload := .none) : Answer := ⟨s, result, payload⟩

/-! ## Strobes -/

/-- TB issues a strobe at `time`: it goes to SEL and to both links, its time becomes the reference time, and the
strobe number advances (R102, R103). -/
def State.issueStrobe (time : Micros) (fallback : Bool) (tag : Option SyncTag) (s : State) : State :=
  { s with
    tb := { s.tb with strobeNumber := s.tb.strobeNumber + 1, refTime := some time, strobeIssued := true },
    arrivals :=
      { s.arrivals with
        strobesToSel := s.arrivals.strobesToSel ++ [⟨s.tb.strobeNumber, time, fallback, tag⟩],
        strobesToLink :=
          ⟨s.arrivals.strobesToLink.a ++ [s.tb.strobeNumber], s.arrivals.strobesToLink.b ++ [s.tb.strobeNumber]⟩ } }

/-! ## The lease (R122) -/

/-- Whether a port holds the lease when its request is taken. -/
def ConfigUnit.holds (c : ConfigUnit) (p : Port) : Bool :=
  match c.lease with
  | none => false
  | some l => l.holder = p

/-- The staged image of the lease, while one is held. -/
def ConfigUnit.staged (c : ConfigUnit) : Option Image := c.lease.map Lease.staged

/-! ## The history ring (R25) -/

/-- The number of the oldest record: next minus the held count (R25). -/
def History.oldest (h : History) : PubNum := h.next - BitVec.ofNat 48 h.records.length

/-- Whether a record number is present: its distance from the oldest is below the held count (R25). -/
def History.present (h : History) (n : PubNum) : Bool := (n - h.oldest).toNat < h.records.length

/-- The record at a number, if it is present (R27). -/
def History.record (h : History) (n : PubNum) : Option Publication :=
  if h.present n then h.records[(n - h.oldest).toNat]? else none

/-- The unread count of a port (R28). -/
def History.unread (h : History) (p : Port) : PubNum := h.next - h.readers[p].cursor

end Sys2Proof.Machine
end

