-- ==== Sys2Proof/Machine/Flags.lean ====
section
/-! DEFINITION. Flags: head status, pending flags of a context, watermark, attention and the status summary. -/

namespace Sys2Proof.Machine

/-! ## Head status (R81, section 11.7) -/

def statusRestarted (st : Byte) : Bool := st.getLsbD 7
def statusTestActive (st : Byte) : Bool := st.getLsbD 6

/-- The six axis faults. -/
def statusFaults (st : Byte) : BitVec 6 := st.setWidth 6

/-- The axes faulted in `now` and not in `before` (R90); before any status none was reported. -/
def newFaults (before : Option Byte) (now : Byte) : BitVec 6 :=
  statusFaults now &&& ~~~ (statusFaults (before.getD 0#8))

/-- The head status test of R49: no fault, TEST_ACTIVE clear and RESTARTED clear. -/
def statusClear (st : Byte) : Bool := st = 0#8

/-! ## Pending flags (R6) -/

/-- The flags of a publication merged into the pending flags: the six that copy one flag (R6). -/
def DeltaFlags.merge (f : DeltaFlags) (p : PubFlags) : DeltaFlags :=
  { f with
    heldSeen := f.heldSeen || p.held, voidSeen := f.voidSeen || p.void, suspectSeen := f.suspectSeen || p.suspect,
    saturatedSeen := f.saturatedSeen || p.saturated, sourceChangeSeen := f.sourceChangeSeen || p.sourceChange,
    syncFallbackSeen := f.syncFallbackSeen || p.syncFallback }

/-! ## Watermark (R31) -/

/-- The watermark indication of a port, evaluated from its watermark and unread count (R31). -/
def Reader.reachedAt (r : Reader) (next : PubNum) : Bool :=
  r.watermark ≠ 0#16 && r.watermark.toNat ≤ (next - r.cursor).toNat

def Reader.evaluate (r : Reader) (next : PubNum) : Reader := { r with reached := r.reachedAt next }

/-! ## What the ports see -/

/-- Some context owned by port p has a record in its take queue (R22). -/
def State.takeQueueNonEmpty (s : State) (p : Port) : Bool :=
  s.delta.contexts.toList.any fun e =>
    match e with
    | none => false
    | some c => c.owner = p && !c.queue.isEmpty

/-- The store is busy (R143). -/
def Store.busy (st : Store) : Bool := st.state = .erasing || st.state = .writing || st.state = .verifying

/-- The truth of the four attention sources of a port (R179). -/
def State.sources (s : State) (p : Port) : AttnSet :=
  { replyQueue := !s.ports[p].queue.isEmpty, watermark := s.hist.readers[p].reached,
    takeQueue := s.takeQueueNonEmpty p, condition := !s.cond.sets[p].isEmpty }

/-- Some enabled source is true (R179). -/
def AttnSet.asserts (mask truth : AttnSet) : Bool :=
  mask.replyQueue && truth.replyQueue || mask.watermark && truth.watermark || mask.takeQueue && truth.takeQueue
    || mask.condition && truth.condition

/-- ATTN of a port is low (R179); it is high while the hub is held in part reset (R191). -/
def State.attnLow (s : State) (p : Port) : Bool :=
  s.power = .running && s.ports[p].mask.asserts (s.sources p)

/-- The status summary of a port (R178, section 11.2). -/
def State.statusSummary (s : State) (p : Port) : BitVec 16 :=
  BitVec.ofNat 16
    (bitAt (!s.cond.sets[p].isEmpty) 15
      + bitAt (s.cfg.holds p) 14
      + bitAt (match s.cfg.lease with | none => false | some l => l.holder ≠ p) 13
      + bitAt (s.cfg.waiters.any fun w => w.port = p) 12
      + bitAt s.hist.readers[p].reached 11
      + bitAt (s.takeQueueNonEmpty p) 10
      + bitAt (s.store.device = .running) 9
      + bitAt (s.sel.source = some .A) 8
      + bitAt (s.sel.source = some .B) 7
      + bitAt (s.sel.source = none) 6
      + bitAt (s.sel.agreement = .disagree) 5
      + bitAt s.store.busy 4)

/-! ## Level conditions (R160) -/

/-- SYNC_LOST is in force (R115). -/
def TimeBase.syncLost (t : TimeBase) : Bool :=
  (t.timing.map Timing.mode) = some .direct && t.fallback = .fallback

/-- SYNC_UNLOCK is in force (R115). -/
def TimeBase.syncUnlock (t : TimeBase) : Bool := (t.timing.map Timing.mode) = some .scaled && t.lockLost

/-- FACTORY_CORRUPT:X is in force (R67). -/
def Store.factoryCorrupt (st : Store) (x : Head) : Bool := st.factoryValidity.get x = .corrupt

end Sys2Proof.Machine
end

