-- ==== Sys2Proof/Machine/Configuration.lean ====
section
/-! DEFINITION. CFG (spec/07): the lease and its waiters, staging, and activation. -/

namespace Sys2Proof.Machine

/-! ## The lease (R122 to R129) -/

/-- The expiry of a period of m milliseconds from the present counter value (R122). -/
def State.expiryAfter (s : State) (period : BitVec 16) : Micros := s.now + BitVec.ofNat 48 (1000 * period.toNat)

/-- The lease granted to a port (R123, R127): its staged image is a copy of the active image as it then stands. -/
def State.grant (p : Port) (period : BitVec 16) (s : State) : State :=
  { s with cfg := { s.cfg with lease := some ⟨p, s.expiryAfter period, s.cfg.active⟩ } }

/-- The oldest waiter, if any, is granted the lease just left FREE, and is sent GRANTED (R127). -/
def State.grantNext (s : State) : State :=
  match s.cfg.waiters with
  | [] => s
  | w :: rest =>
    (({ s with cfg := { s.cfg with waiters := rest } } : State).grant w.port w.period).complete w.port
      (Reply.completion .leaseAcquire w.tag .granted (.leasePeriod w.period s.cfg.epoch))

/-- The lease ends (R124, R125, R129): the staged image goes with it, and the oldest waiter is granted. -/
def State.endLease (s : State) : State := ({ s with cfg := { s.cfg with lease := none } } : State).grantNext

/-- A port's place in the waiter queue, 1 the oldest (R123). -/
def ConfigUnit.waiterPosition (c : ConfigUnit) (p : Port) : Option Nat :=
  (c.waiters.findIdx? fun w => w.port = p).map (· + 1)

/-- LEASE_ACQUIRE at CFG: the first case of R123 that fits. -/
def leaseAcquire (p : Port) (tag wait : Byte) (period : BitVec 16) (s : State) : Answer :=
  if period.toNat < 100 ∨ 60000 < period.toNat then answer s .outOfRange
  else
    match s.cfg.lease with
    | none => ⟨s.grant p period, .granted, .leasePeriod period s.cfg.epoch⟩
    | some l =>
      if l.holder = p then
        ⟨{ s with cfg := { s.cfg with lease := some { l with expiry := s.expiryAfter period } } }, .renewed,
          .leasePeriod period s.cfg.epoch⟩
      else
        match s.cfg.waiterPosition p with
        | some n => answer s .alreadyQueued (.leaseQueued l.holder n)
        | none =>
          if wait = 0#8 then answer s .heldElsewhere (.leaseHolder l.holder)
          else
            ⟨{ s with cfg := { s.cfg with waiters := s.cfg.waiters ++ [⟨p, tag, period⟩] } }, .queued,
              .leaseQueued l.holder (s.cfg.waiters.length + 1)⟩

/-- LEASE_ACQUIRE (R123). -/
def execLeaseAcquire (r : Req) (wait : Byte) (period : BitVec 16) (s : State) : Out :=
  requestEnd r .leaseAcquire (leaseAcquire r.port r.tag wait period) s

/-- A port's waiter entry removed, the others keeping their order (R124, R129). -/
def ConfigUnit.withoutWaiter (c : ConfigUnit) (p : Port) : ConfigUnit :=
  { c with waiters := c.waiters.filter fun w => w.port ≠ p }

/-- LEASE_RELEASE at CFG (R124). -/
def leaseRelease (p : Port) (s : State) : Answer :=
  if s.cfg.holds p then ⟨s.endLease, .released, .none⟩
  else if (s.cfg.waiterPosition p).isSome then ⟨{ s with cfg := s.cfg.withoutWaiter p }, .cancelled, .none⟩
  else answer s .notHolder

/-- LEASE_RELEASE (R124). -/
def execLeaseRelease (r : Req) (s : State) : Out := requestEnd r .leaseRelease (leaseRelease r.port) s

/-- The counter has reached the expiry of a held lease (R125). -/
def State.leaseExpiryDue (s : State) : Bool :=
  match s.cfg.lease with
  | none => false
  | some l => s.since l.expiry < 2 ^ 47

/-- The expiry of the lease (R125). -/
def leaseExpiry (s : State) : State :=
  match s.cfg.lease with
  | none => s
  | some l => if s.leaseExpiryDue then (s.raisePort .leaseExpired l.holder).endLease else s

/-- LEASE_EXPIRY (R125). -/
def execLeaseExpiry (s : State) : Out := whileRunning leaseExpiry s

/-- A port's part in the lease ends at its PORT_RESET (R129): the state and the outcome. -/
def State.resetLease (p : Port) (s : State) : State × LeaseOutcome :=
  if s.cfg.holds p then (s.endLease, .released)
  else if (s.cfg.waiterPosition p).isSome then ({ s with cfg := s.cfg.withoutWaiter p }, .cancelled)
  else (s, .none)

/-! ## Staging (R131 to R135) -/

/-- A request that needs the lease (R131): NOT_HOLDER, or `f` on the staged image. -/
def asHolder (p : Port) (s : State) (f : Lease → Answer) : Answer :=
  match s.cfg.lease with
  | none => answer s .notHolder
  | some l => if l.holder = p then f l else answer s .notHolder

/-- The staged image replaced, answered OK with the active epoch (R131). -/
def State.stage (s : State) (l : Lease) (staged : Image) : Answer :=
  ⟨{ s with cfg := { s.cfg with lease := some { l with staged := staged } } }, .ok, .epoch s.cfg.epoch⟩

/-- A field outside its range: OUT_OF_RANGE with its index, nothing staged (R131). -/
def badField (s : State) (index : Nat) : Answer := answer s .outOfRange (.fieldIndex index)

/-- STAGE_CAL at CFG (R132). -/
def stageCal (p : Port) (head group : Byte) (values : Mat3 (BitVec 32)) (s : State) : Answer :=
  asHolder p s fun l =>
    match headOf head, calGroupOf group with
    | none, _ => badField s 1
    | some _, none => badField s 2
    | some x, some g =>
      match g.firstBad values with
      | some index => badField s index
      | none =>
        s.stage l { l.staged with user := l.staged.user.set x ((l.staged.user.get x).withGroup g values) }

/-- STAGE_CAL (R132). -/
def execStageCal (r : Req) (head group : Byte) (values : Mat3 (BitVec 32)) (s : State) : Out :=
  requestEnd r .stageCal (stageCal r.port head group values) s

/-- STAGE_SOURCE at CFG (R133). -/
def stageSource (p : Port) (mode : Byte) (holdOff : BitVec 16) (s : State) : Answer :=
  asHolder p s fun l =>
    match SourceMode.ofCode mode with
    | none => badField s 1
    | some m => s.stage l { l.staged with mode := m, holdOff := holdOff }

/-- STAGE_SOURCE (R133). -/
def execStageSource (r : Req) (mode : Byte) (holdOff : BitVec 16) (s : State) : Out :=
  requestEnd r .stageSource (stageSource r.port mode holdOff) s

/-- STAGE_THRESHOLDS at CFG (R133). -/
def stageThresholds (p : Port) (gyro accel : BitVec 32) (s : State) : Answer :=
  asHolder p s fun l =>
    if thresholdLimit < gyro.toNat then badField s 1
    else if thresholdLimit < accel.toNat then badField s 2
    else s.stage l { l.staged with gyroThreshold := gyro, accelThreshold := accel }

/-- STAGE_THRESHOLDS (R133). -/
def execStageThresholds (r : Req) (gyro accel : BitVec 32) (s : State) : Out :=
  requestEnd r .stageThresholds (stageThresholds r.port gyro accel) s

/-- STAGE_TIMING at CFG (R134): S takes every value. -/
def stageTiming (p : Port) (rate : BitVec 16) (mode : Byte) (scale : BitVec 16) (s : State) : Answer :=
  asHolder p s fun l =>
    match Rate.ofCode rate, SyncMode.ofCode mode with
    | none, _ => badField s 1
    | some _, none => badField s 2
    | some g, some m => s.stage l { l.staged with timing := ⟨g, m, scale⟩ }

/-- STAGE_TIMING (R134). -/
def execStageTiming (r : Req) (rate : BitVec 16) (mode : Byte) (scale : BitVec 16) (s : State) : Out :=
  requestEnd r .stageTiming (stageTiming r.port rate mode scale) s

/-- STAGE_READ at CFG (R135). -/
def stageRead (p : Port) (s : State) : Answer :=
  asHolder p s fun l => answer s .ok (.stagedImage l.staged s.cfg.epoch (l.staged.diff s.cfg.active))

/-- STAGE_READ (R135). -/
def execStageRead (r : Req) (s : State) : Out := requestEnd r .stageRead (stageRead r.port) s

/-- STAGE_DISCARD at CFG (R135). -/
def stageDiscard (p : Port) (s : State) : Answer := asHolder p s fun l => s.stage l s.cfg.active

/-- STAGE_DISCARD (R135). -/
def execStageDiscard (r : Req) (s : State) : Out := requestEnd r .stageDiscard (stageDiscard r.port) s

/-! ## Activation (R136, R137) -/

/-- A staged image becomes the active image (R137): the epoch rises, CONFIG_ACTIVATED is raised, and the timing items
go to TB as an event of their own (R121). -/
def State.activateImage (image : Image) (s : State) : State :=
  ({ s with
      cfg := { s.cfg with active := image, epoch := s.cfg.epoch + 1 },
      arrivals := { s.arrivals with timings := s.arrivals.timings ++ [image.timing] } } : State).raise .configActivated

/-- ACTIVATE at CFG (R136, R137). -/
def activate (p : Port) (s : State) : Answer :=
  asHolder p s fun l =>
    match l.staged.fault with
    | some reason => answer s .invalidConfig (.invalidConfig reason)
    | none => ⟨s.activateImage l.staged, .activated, .epoch (s.cfg.epoch + 1)⟩

/-- ACTIVATE (R137). -/
def execActivate (r : Req) (s : State) : Out := requestEnd r .activate (activate r.port) s

end Sys2Proof.Machine
end

