-- ==== Sys2Proof/Machine/Delta.lean ====
section
/-! DEFINITION. DELTA (spec/01): integration, delta records, auto takes, the backfill walk and the delta requests. -/

namespace Sys2Proof.Machine

/-! ## Integration (R5, R6) -/

/-- Limit of a sum (R5): 2^63 − 1. -/
def sumLimit : Int := 9223372036854775807

/-- A sum with `value × interval` added exactly, held at its limit (R5). A held sum is not changed. -/
def addToSum (sum : BitVec 64) (held : Bool) (value : BitVec 32) (interval : Micros) : BitVec 64 × Bool :=
  let exact := sum.toInt + value.toInt * (interval.toNat : Int)
  if held then (sum, true)
  else if sumLimit < exact then (BitVec.ofInt 64 sumLimit, true)
  else if exact < -sumLimit then (BitVec.ofInt 64 (-sumLimit), true)
  else (BitVec.ofInt 64 exact, false)

def addToSums (sums : Triple (BitVec 64)) (held : Triple Bool) (values : Triple (BitVec 32)) (interval : Micros) :
    Triple (BitVec 64 × Bool) :=
  ⟨addToSum sums.x held.x values.x interval, addToSum sums.y held.y values.y interval,
    addToSum sums.z held.z values.z interval⟩

/-- The total interval with an interval added, held at 2^48 − 1 (R5). -/
def addToTotal (total : Micros) (held : Bool) (interval : Micros) : Micros × Bool :=
  if held then (total, true)
  else if 2 ^ 48 ≤ total.toNat + interval.toNat then (BitVec.allOnes 48, true)
  else (total + interval, false)

/-- A publication number is a multiple of the auto period (R6, R8). -/
def onPeriod (period : BitVec 16) (n : PubNum) : Bool := n.toNat % period.toNat = 0

/-- An auto boundary falls after publication n (R8). -/
def boundaryAfter (period : BitVec 16) (n : PubNum) : Bool :=
  period ≠ 0#16 && (n.toNat + 1) % period.toNat = 0

/-- The accumulation after publication p (R5 steps 1 to 5, R6), in a context with auto period N. -/
def Accumulation.add (a : Accumulation) (period : BitVec 16) (p : Publication) : Accumulation :=
  let isFirst := a.count = 0#32
  let angle := if p.flags.void then Triple.zip Prod.mk a.angle a.angleHeld else addToSums a.angle a.angleHeld p.gyro p.interval
  let velocity :=
    if p.flags.void then Triple.zip Prod.mk a.velocity a.velocityHeld
    else addToSums a.velocity a.velocityHeld p.accel p.interval
  let total := addToTotal a.total a.totalHeld p.interval
  let anyHeld := angle.toList.any Prod.snd || velocity.toList.any Prod.snd || total.2
  let merged := a.flags.merge p.flags
  { first := if isFirst then some p.number else a.first
    last := some p.number
    count := a.count + 1
    voids := if p.flags.void then a.voids + 1 else a.voids
    skipped := a.skipped
    startTime := if isFirst then p.time - p.interval else a.startTime
    endTime := p.time
    angle := angle.map Prod.fst
    velocity := velocity.map Prod.fst
    total := total.1
    flags :=
      { merged with
        epochSpan := merged.epochSpan || (!isFirst && a.lastEpoch ≠ some p.epoch)
        partialStart := merged.partialStart || (isFirst && period ≠ 0#16 && !onPeriod period p.number)
        sumSaturated := merged.sumSaturated || anyHeld }
    angleHeld := angle.map Prod.snd
    velocityHeld := velocity.map Prod.snd
    totalHeld := total.2
    lastEpoch := some p.epoch }

/-- A context integrates publication p, and its position advances by one (R5 step 6). -/
def Context.integrate (c : Context) (p : Publication) : Context :=
  { c with acc := c.acc.add c.period p, position := c.position + 1 }

/-! ## Records (R7 to R10) -/

/-- The record made from an accumulation (R7); with a pending count of 0 all but the skipped count is empty. -/
def Context.recordOf (c : Context) (n : CtxNum) (kind : RecordKind) : DeltaRecord :=
  let a := if c.acc.count = 0#32 then { Accumulation.empty with skipped := c.acc.skipped } else c.acc
  { ctx := n, kind := kind, label := c.label, sequence := c.sequence, first := a.first, last := a.last,
    count := a.count, voids := a.voids, skipped := a.skipped, startTime := a.startTime, endTime := a.endTime,
    angle := a.angle, velocity := a.velocity, total := a.total, flags := a.flags }

/-- The context after a record is made: the take sequence advances and the accumulation is emptied (R7). -/
def Context.afterRecord (c : Context) : Context :=
  { c with sequence := c.sequence + 1, acc := Accumulation.empty }

/-- An AUTO record made and put at the tail of the take queue (R8). -/
def Context.autoTake (c : Context) (n : CtxNum) : Context :=
  { c.afterRecord with queue := c.queue ++ [c.recordOf n .auto] }

/-- The auto boundary test after the record numbered `passed` (R8, R9). -/
def Context.boundary (c : Context) (n : CtxNum) (passed : PubNum) : Context :=
  if boundaryAfter c.period passed then
    if c.queue.length < Config.takeDepth then c.autoTake n
    else { c with acc := { c.acc with flags := { c.acc.flags with takeDeferred := true } } }
  else c

/-- What becomes of an entry of the table in one event. -/
inductive Entry where
  /-- The context stays. -/
  | keeps (c : Context)
  /-- The context is closed at the count limit (R10): its owner, open tag, CLOSING record and discarded records. -/
  | closes (owner : Port) (tag : Byte) (record : DeltaRecord) (discarded : Nat)

/-- The count limit (R10). -/
def Context.limit (c : Context) (n : CtxNum) : Entry :=
  if c.acc.count.toNat + c.acc.skipped.toNat < Config.countLimit then .keeps c
  else if c.queue.length < Config.takeDepth then .keeps (c.autoTake n)
  else .closes c.owner c.openTag (c.recordOf n .closing) c.queue.length

/-- Integration with the tests that follow it (R4, R11): boundary, then count limit. -/
def Context.take (c : Context) (n : CtxNum) (p : Publication) : Entry :=
  ((c.integrate p).boundary n p.number).limit n

/-- The four steps of a dropped record at the walk position (R13). -/
def Context.skip (c : Context) (n : CtxNum) : Entry :=
  let c1 : Context :=
    { c with
      position := c.position + 1,
      acc :=
        { c.acc with skipped := c.acc.skipped + 1, flags := { c.acc.flags with historyGap := true } } }
  (c1.boundary n c.position).limit n

/-- An entry put back into the table; a close frees it and sends the FAILED completion (R10). -/
def State.putEntry (n : CtxNum) (e : Entry) (s : State) : State :=
  match e with
  | .keeps c => s.setContext n (some c)
  | .closes owner tag record discarded =>
    (s.setContext n none).complete owner
      (Reply.completion .deltaOpen tag .failed (.deltaClosed discarded record))

/-! ## Live arrivals (R4) -/

def ctxNumbers : List CtxNum := [0, 1, 2, 3, 4, 5, 6, 7]

/-- Publication p at one entry: an OPEN context whose position is p integrates it (R4). -/
def State.liveAt (p : Publication) (n : CtxNum) (s : State) : State :=
  match s.delta.contexts[n] with
  | none => s
  | some c => if c.state = .opened ∧ c.position = p.number then s.putEntry n (c.take n p) else s

/-- The arrival of the oldest publication in flight at DELTA (R4). -/
def deltaArrival (s : State) : State :=
  match s.arrivals.atDelta with
  | [] => s
  | p :: rest =>
    ctxNumbers.foldl (fun s n => s.liveAt p n)
      { s with
        arrivals := { s.arrivals with atDelta := rest },
        delta := { s.delta with lastArrival := some p.number } }

/-- PUBLICATION_AT_DELTA (R4). -/
def execPublicationAtDelta (s : State) : Out := whileRunning deltaArrival s

/-- DELTA has already taken the arrival of publication n (R4): n is at or before the most recent one. -/
def DeltaEngine.arrivalTaken (d : DeltaEngine) (n : PubNum) : Bool :=
  match d.lastArrival with
  | none => false
  | some l => (l - n).toNat < 2 ^ 47

/-! ## The walk (R11 to R13) -/

/-- A walk step that leaves the position at the history's next opens the context and sends DONE (R12), unless the
arrival of that publication has been taken (R4). -/
def State.finishWalk (n : CtxNum) (e : Entry) (s : State) : State :=
  match e with
  | .closes _ _ _ _ => s.putEntry n e
  | .keeps c =>
    if c.position = s.hist.next ∧ s.delta.arrivalTaken s.hist.next = false then
      (s.setContext n (some { c with state := .opened })).complete c.owner
        (Reply.completion .deltaOpen c.openTag .done
          (.deltaWalked n c.start c.position c.acc.count c.acc.skipped c.queue.length))
    else s.putEntry n e

/-- A context that a walk step finds something to do for: BACKFILLING, its position not the history's next (R11). -/
def State.walking (s : State) (n : CtxNum) : Bool :=
  match s.delta.contexts[n] with
  | none => false
  | some c => c.state = .backfilling && c.position ≠ s.hist.next

/-- One walk step of a context (R11). -/
def walkStep (n : CtxNum) (s : State) : State :=
  match s.delta.contexts[n] with
  | none => s
  | some c =>
    if c.state = .backfilling ∧ c.position ≠ s.hist.next then
      match s.hist.record c.position with
      | some p => s.finishWalk n (c.take n p)
      | none => s.finishWalk n (c.skip n)
    else s

/-- WALK_STEP (R11). -/
def execWalkStep (c : CtxNum) (s : State) : Out := whileRunning (walkStep c) s

/-- A drop at one entry: a walk whose position it names skips it (R13). -/
def State.dropAt (dropped : PubNum) (n : CtxNum) (s : State) : State :=
  match s.delta.contexts[n] with
  | none => s
  | some c => if c.state = .backfilling ∧ c.position = dropped then s.putEntry n (c.skip n) else s

/-- DELTA takes the oldest dropped record number in flight (R13). -/
def dropArrival (s : State) : State :=
  match s.arrivals.drops with
  | [] => s
  | d :: rest =>
    ctxNumbers.foldl (fun s n => s.dropAt d n) { s with arrivals := { s.arrivals with drops := rest } }

/-- DROP_AT_DELTA (R13). -/
def execDropAtDelta (s : State) : Out := whileRunning dropArrival s

/-! ## Requests (R14 to R19) -/

/-- The checks of a context number (R14): the context, or the refusal. -/
def State.ownContext (s : State) (p : Port) (b : Byte) : Except Result (CtxNum × Context) :=
  match contextOf b with
  | none => .error .outOfRange
  | some n =>
    match s.delta.contexts[n] with
    | none => .error .noContext
    | some c => if c.owner = p then .ok (n, c) else .error .notOwner

/-- The lowest-numbered FREE entry (R1). -/
def DeltaEngine.firstFree (d : DeltaEngine) : Option CtxNum := ctxNumbers.find? fun n => d.contexts[n].isNone

/-- Whether an entry is owned by a port. -/
def ownedBy (p : Port) (e : Option Context) : Bool :=
  match e with
  | none => false
  | some c => c.owner = p

/-- The number of non-FREE entries a port owns (R1). -/
def DeltaEngine.owned (d : DeltaEngine) (p : Port) : Nat := d.contexts.toList.countP (ownedBy p)

/-- The start point of an open with NEXT: the history's next, or one past the most recent arrival when DELTA has
already taken the arrival of next (R4, R15). -/
def State.startNext (s : State) : PubNum :=
  match s.delta.lastArrival with
  | none => s.hist.next
  | some l => if s.delta.arrivalTaken s.hist.next then l + 1 else s.hist.next

/-- A context as it is opened (R2). -/
def Context.opening (state : CtxState) (owner : Port) (label period : BitVec 16) (tag : Byte) (start : PubNum) :
    Context :=
  { state := state, owner := owner, label := label, period := period, openTag := tag, sequence := 0#16,
    start := start, position := start, acc := Accumulation.empty, queue := [] }

/-- DELTA_OPEN at DELTA (R15). -/
def deltaOpen (p : Port) (tag : Byte) (label period : BitVec 16) (form : Byte) (number : PubNum) (s : State) : Answer :=
  match startFormOf form with
  | none => answer s .outOfRange
  | some f =>
    match s.delta.firstFree with
    | none => answer s .noContext
    | some n =>
      if Config.contextsPerPort ≤ s.delta.owned p then answer s .portLimit
      else
        match f with
        | .next =>
          ⟨s.setContext n (some (Context.opening .opened p label period tag s.startNext)), .ok,
            .deltaOpened n s.startNext⟩
        | .absolute =>
          if s.hist.present number then
            ⟨s.setContext n (some (Context.opening .backfilling p label period tag number)), .accepted,
              .deltaOpened n number⟩
          else answer s .outOfRange

/-- DELTA_OPEN (R15). -/
def execDeltaOpen (r : Req) (label period : BitVec 16) (form : Byte) (number : PubNum) (s : State) : Out :=
  requestEnd r .deltaOpen (deltaOpen r.port r.tag label period form number) s

/-- DELTA_TAKE at DELTA (R16). -/
def deltaTake (p : Port) (ctx : Byte) (s : State) : Answer :=
  match s.ownContext p ctx with
  | .error e => answer s e
  | .ok (n, c) =>
    match c.state with
    | .backfilling => answer s .busy
    | .opened => ⟨s.setContext n (some c.afterRecord), .ok, .deltaTaken (c.recordOf n .manual)⟩

/-- DELTA_TAKE (R16). -/
def execDeltaTake (r : Req) (ctx : Byte) (s : State) : Out := requestEnd r .deltaTake (deltaTake r.port ctx) s

/-- DELTA_COLLECT at DELTA (R17). -/
def deltaCollect (p : Port) (ctx : Byte) (s : State) : Answer :=
  match s.ownContext p ctx with
  | .error e => answer s e
  | .ok (n, c) =>
    match c.queue with
    | [] => answer s .empty
    | record :: rest => ⟨s.setContext n (some { c with queue := rest }), .ok, .deltaCollected rest.length record⟩

/-- DELTA_COLLECT (R17). -/
def execDeltaCollect (r : Req) (ctx : Byte) (s : State) : Out :=
  requestEnd r .deltaCollect (deltaCollect r.port ctx) s

/-- DELTA_CLOSE at DELTA (R18). -/
def deltaClose (p : Port) (ctx discard : Byte) (s : State) : Answer :=
  match s.ownContext p ctx with
  | .error e => answer s e
  | .ok (n, c) =>
    if c.queue ≠ [] ∧ discard = 0#8 then answer s .queueNotEmpty
    else ⟨s.setContext n none, .ok, .deltaClosed c.queue.length (c.recordOf n .closing)⟩

/-- DELTA_CLOSE (R18). -/
def execDeltaClose (r : Req) (ctx discard : Byte) (s : State) : Out :=
  requestEnd r .deltaClose (deltaClose r.port ctx discard) s

/-- The snapshot of a context (R19): first and last are absent when the pending count is 0. -/
def Context.report (c : Context) : ContextReport :=
  { state := c.state, label := c.label, period := c.period, sequence := c.sequence, start := c.start,
    position := c.position, depth := c.queue.length, first := if c.acc.count = 0#32 then none else c.acc.first,
    last := if c.acc.count = 0#32 then none else c.acc.last, count := c.acc.count, voids := c.acc.voids,
    skipped := c.acc.skipped, flags := c.acc.flags }

/-- DELTA_STATUS at DELTA (R19). -/
def deltaStatus (p : Port) (ctx : Byte) (s : State) : Answer :=
  match s.ownContext p ctx with
  | .error e => answer s e
  | .ok (_, c) => answer s .ok (.deltaStatus c.report)

/-- DELTA_STATUS (R19). -/
def execDeltaStatus (r : Req) (ctx : Byte) (s : State) : Out := requestEnd r .deltaStatus (deltaStatus r.port ctx) s

/-- Every context of a port freed without a record (R24). -/
def State.freeContexts (p : Port) (s : State) : State :=
  { s with
    delta := { s.delta with contexts := s.delta.contexts.map fun e => if ownedBy p e then none else e } }

end Sys2Proof.Machine
end

