-- ==== Sys2Proof/Machine/Calibration.lean ====
section
/-! DEFINITION. CAL (spec/04): the calibration arithmetic and CAL_READ. -/

namespace Sys2Proof.Machine

/-! ## Arithmetic (R71 to R74) -/

/-- The integer nearest to v / 2^n, halves away from zero (R72); n is above 0. -/
def roundHalfAway (n : Nat) (v : Int) : Int :=
  let m : Int := ((v.natAbs + 2 ^ (n - 1)) / 2 ^ n : Nat)
  if v < 0 then -m else m

/-- A matrix row against a column of exact integers. -/
def dot (row : Triple (BitVec 32)) (v : Triple Int) : Int :=
  row.x.toInt * v.x + row.y.toInt * v.y + row.z.toInt * v.z

/-- The first stage of one sensor triple (R71): the corrected counts through the Q8.24 matrix. -/
def factoryStage (matrix : Mat3 (BitVec 32)) (bias raw : Triple (BitVec 24)) : Triple Int :=
  let d : Triple Int := Triple.zip (fun r b => r.toInt - b.toInt) raw bias
  matrix.map fun row => roundHalfAway 24 (dot row d)

/-- The second stage (R73): the Q2.30 matrix and the trim bias in one rounding. -/
def userStage (matrix : Mat3 (BitVec 32)) (trim : Triple (BitVec 32)) (u : Triple Int) : Triple Int :=
  Triple.zip (fun row t => roundHalfAway 30 (dot row u + t.toInt * 2 ^ 30)) matrix trim

/-- The largest published magnitude: 2^31 − 1 (R74). -/
def clipLimit : Int := 2147483647

def clip (v : Int) : Int := max (-clipLimit) (min clipLimit v)

/-- A value that clipping changed (R74). -/
def clipped (v : Int) : Bool := clip v ≠ v

/-- What CAL hands SEL for a head (R75). -/
structure Calibrated where
  gyro : Triple (BitVec 32)
  accel : Triple (BitVec 32)
  clipped : Bool
  deriving DecidableEq, Repr

/-- Calibration of one head's recorded frame (R71 to R75). -/
def calibrate (f : FactoryRecord) (u : UserRecord) (frame : SampleFrame) : Calibrated :=
  let g := userStage u.gyroAlign u.gyroTrim (factoryStage f.gyroMatrix f.gyroBias frame.gyro)
  let a := userStage u.accelAlign u.accelTrim (factoryStage f.accelMatrix f.accelBias frame.accel)
  { gyro := g.map fun v => BitVec.ofInt 32 (clip v), accel := a.map fun v => BitVec.ofInt 32 (clip v),
    clipped := (g.toList ++ a.toList).any clipped }

/-! ## CAL_READ (R76 to R78) -/

/-- The factory record as a FACTORY read returns it: every field 0 for a record that could not be read (R77). -/
def Store.factoryAsRead (st : Store) (x : Head) : FactoryRecord := (st.factory.get x).getD FactoryRecord.zero

/-- CAL_READ at CAL (R76 to R78). -/
def calRead (p : Port) (head form : Byte) (s : State) : Answer :=
  match headOf head, calFormOf form with
  | none, _ => answer s .outOfRange
  | some _, none => answer s .outOfRange
  | some x, some .factory =>
    answer s .ok (.calFactory x (s.store.factoryValidity.get x = .valid) (s.store.factoryAsRead x))
  | some x, some .active => answer s .ok (.calUser x s.cfg.epoch (s.cfg.active.user.get x))
  | some x, some .staged =>
    match s.cfg.lease with
    | some l =>
      if l.holder = p then answer s .ok (.calUser x s.cfg.epoch (l.staged.user.get x)) else answer s .notHolder
    | none => answer s .notHolder

/-- CAL_READ (R76). -/
def execCalRead (r : Req) (head form : Byte) (s : State) : Out :=
  requestEnd r .calRead (calRead r.port head form) s

end Sys2Proof.Machine
end

