-- ==== Sys2Proof/Machine/Selector.lean ====
section
/-! DEFINITION. SEL (spec/03): windows, usable heads, source choice, hold, the consistency monitor and the
publication. -/

namespace Sys2Proof.Machine

/-! ## What a close reads (R49, R52) -/

/-- A head is usable in the window (R49): its link is UP, a frame is recorded, the frame's status is clear, and its
factory record is valid. -/
def State.usable (s : State) (x : Head) : Bool :=
  (s.links.get x).state = .up
    && (match s.sel.frames.get x with | none => false | some f => statusClear f.status)
    && s.store.factoryValidity.get x = .valid

/-- The calibrated frame of a usable head (R52); none for any other. -/
def State.calibrated (s : State) (x : Head) : Option Calibrated :=
  if s.usable x then
    match s.sel.frames.get x with
    | none => none
    | some f => some (calibrate (s.store.factoryAsRead x) (s.cfg.active.user.get x) f)
  else none

/-! ## The monitor (R59, R60) -/

/-- Some axis differs by more than the threshold (R59), exactly. -/
def differs (threshold : BitVec 32) (a b : Triple (BitVec 32)) : Bool :=
  (Triple.zip (fun u v : BitVec 32 => (u.toInt - v.toInt).natAbs) a b).toList.any fun d => threshold.toNat < d

/-- A compared window disagrees (R59). -/
def disagrees (image : Image) (a b : Calibrated) : Bool :=
  differs image.gyroThreshold a.gyro b.gyro || differs image.accelThreshold a.accel b.accel

/-- The agreement state and count after a compared window (R60). -/
def monitor (state : Agreement) (count : Nat) (disagreed : Bool) : Agreement × Nat :=
  match state, disagreed with
  | .agree, false => (.agree, 0)
  | .agree, true => if count < 15 then (.agree, count + 1) else (.disagree, 0)
  | .disagree, true => (.disagree, 0)
  | .disagree, false => if count < 15 then (.disagree, count + 1) else (.agree, 0)

/-! ## The choice of source (R53 to R57) -/

/-- The preferred head of a mode (R55). -/
def SourceMode.preferred : SourceMode → Option Head
  | .aOnly => none
  | .bOnly => none
  | .preferA => some .A
  | .preferB => some .B

/-- The counted head and the hold-off count after step 6's first part (R55). -/
def holdOffCount (sel : Selector) (mode : SourceMode) (usable : Head → Bool) : Option Head × Nat :=
  let start := if mode.preferred = sel.counted then sel.holdOff else 0
  match mode.preferred with
  | none => (none, 0)
  | some x => (some x, if usable x then min (start + 1) Config.holdOffLimit else 0)

/-- The source of a preference mode (R54): `x` is the preferred head. -/
def preferSource (x : Head) (active : Option Head) (count holdOff : Nat) (usable : Head → Bool) : Option Head :=
  if active = some x.other ∧ usable x.other then
    if usable x ∧ holdOff < count then some x else some x.other
  else if usable x then some x
  else if usable x.other then some x.other
  else none

/-- The source of the window (R53, R54); none is a hold (R57). -/
def chooseSource (mode : SourceMode) (active : Option Head) (count holdOff : Nat) (usable : Head → Bool) :
    Option Head :=
  match mode with
  | .aOnly => if usable .A then some .A else none
  | .bOnly => if usable .B then some .B else none
  | .preferA => preferSource .A active count holdOff usable
  | .preferB => preferSource .B active count holdOff usable

/-! ## The publication (R57, R61, R62) -/

/-- The six values of a publication, and whether they repeat the last ones (HELD) or are the zeros of VOID. -/
structure Values where
  gyro : Triple (BitVec 32)
  accel : Triple (BitVec 32)
  held : Bool
  void : Bool
  deriving DecidableEq, Repr

/-- The values of a hold, by the held count after its increase (R57). -/
def holdValues (held : BitVec 16) (last : Option (Triple (BitVec 32) × Triple (BitVec 32))) : Values :=
  match last with
  | some (g, a) =>
    if held.toNat ≤ Config.heldLimit then ⟨g, a, true, false⟩ else ⟨Triple.const 0#32, Triple.const 0#32, false, true⟩
  | none => ⟨Triple.const 0#32, Triple.const 0#32, false, true⟩

/-- Steps 1 to 7 of a close (R48): the publication, and SEL after it. -/
def State.closing (s : State) (strobe : Strobe) : Publication × Selector :=
  let sel := s.sel
  let image := s.cfg.active
  let agreed :=
    match s.calibrated .A, s.calibrated .B with
    | some a, some b => monitor sel.agreement sel.agreementCount (disagrees image a b)
    | _, _ => (sel.agreement, sel.agreementCount)
  let counted := holdOffCount sel image.mode s.usable
  let source := chooseSource image.mode sel.source counted.2 image.holdOff.toNat s.usable
  let changed := source ≠ sel.source
  let heldCount := if source = none then satInc sel.heldCount else 0#16
  let chosen := source.bind s.calibrated
  let values : Values :=
    match chosen with
    | some c => ⟨c.gyro, c.accel, false, false⟩
    | none => holdValues heldCount sel.lastValues
  let p : Publication :=
    { number := sel.counter
      time := strobe.time
      interval := match sel.previousTime with | none => 0#48 | some t => strobe.time - t
      strobe := strobe.number
      source := source
      epoch := s.cfg.epoch
      tag := strobe.tag
      gyro := values.gyro
      accel := values.accel
      temp := source.bind fun x => (sel.frames.get x).map SampleFrame.temp
      flags :=
        { held := values.held
          void := values.void
          suspect := agreed.1 = .disagree
          saturated := match chosen with | none => false | some c => c.clipped
          sourceChange := changed
          epochChange := match sel.previousEpoch with | none => false | some e => e ≠ s.cfg.epoch
          syncFallback := strobe.fallback } }
  (p,
    { sel with
      window := .closed
      counter := sel.counter + 1
      previousTime := some strobe.time
      previousEpoch := some s.cfg.epoch
      source := source
      lastValues := if values.void then sel.lastValues else some (values.gyro, values.accel)
      heldCount := heldCount
      counted := counted.1
      holdOff := if changed then 0 else counted.2
      agreement := agreed.1
      agreementCount := agreed.2 })

/-- A link of the expected set without a recorded frame is charged a miss (R50). -/
def Selector.missed (sel : Selector) (x : Head) : Bool := sel.expected.get x && (sel.frames.get x).isNone

/-- Misses in flight after a close (R50). -/
def Selector.chargeMisses (sel : Selector) (m : Pair Nat) : Pair Nat :=
  ⟨if sel.missed .A then m.a + 1 else m.a, if sel.missed .B then m.b + 1 else m.b⟩

/-- The close of the current window (R48): its misses and its publication go out, and a change of source raises
SOURCE_SWITCH (R56). -/
def State.closeWindow (s : State) : State :=
  match s.sel.current with
  | none => s
  | some strobe =>
    let (p, sel) := s.closing strobe
    ({ s with
        sel := sel,
        arrivals :=
          { s.arrivals with
            misses := s.sel.chargeMisses s.arrivals.misses,
            appends := s.arrivals.appends ++ [p],
            atDelta := s.arrivals.atDelta ++ [p],
            atCond := s.arrivals.atCond ++ [⟨sel.source = none, sel.agreement = .disagree⟩] } } : State).raiseIf
      p.flags.sourceChange .sourceSwitch

/-! ## Windows (R43 to R45) -/

/-- A link whose state puts it into the expected set (R44). -/
def LinkState.expected : LinkState → Bool
  | .syncing | .up | .foreign => true
  | .absent | .faulted => false

/-- The window of a strobe opens (R43, R44); with an empty expected set it closes at once. -/
def State.openWindow (strobe : Strobe) (s : State) : State :=
  let expected : Pair Bool := ⟨s.links.a.state.expected, s.links.b.state.expected⟩
  let s1 : State :=
    { s with
      sel :=
        { s.sel with
          window := .opened, previous := s.sel.current.map Strobe.number, current := some strobe,
          frames := ⟨none, none⟩, expected := expected } }
  if expected.a = false ∧ expected.b = false then s1.closeWindow else s1

/-- A strobe at SEL (R43): an OPEN window closes, then the strobe's window opens. -/
def State.strobeAtSel (strobe : Strobe) (s : State) : State :=
  (if s.sel.window = .opened then s.closeWindow else s).openWindow strobe

/-- The oldest strobe in flight at SEL. -/
def strobeArrival (s : State) : State :=
  match s.arrivals.strobesToSel with
  | [] => s
  | strobe :: rest =>
    ({ s with arrivals := { s.arrivals with strobesToSel := rest } } : State).strobeAtSel strobe

/-- STROBE_AT_SEL (R43). -/
def execStrobeAtSel (s : State) : Out := whileRunning strobeArrival s

/-- Every link of the expected set has a recorded frame (R45). -/
def Selector.complete (sel : Selector) : Bool := !sel.missed .A && !sel.missed .B

/-- An accepted frame recorded at SEL (R45): an OPEN window closes early when it was the last awaited and the frame's
link is awaited. -/
def State.recordFrame (x : Head) (f : SampleFrame) (s : State) : State :=
  let s1 : State := { s with sel := { s.sel with frames := s.sel.frames.set x (some f) } }
  if s1.sel.window = .opened ∧ s1.sel.complete then s1.closeWindow else s1

end Sys2Proof.Machine
end

