-- ==== Sys2Proof/Machine/Links.lean ====
section
/-! DEFINITION. LINK A and LINK B (spec/05): frames, link states, and the head command slot. Nothing one link does
changes the other. -/

namespace Sys2Proof.Machine

/-! ## The command slot (R94, R95, R99) -/

/-- The request a host command answers (R99). -/
def CommandKind.request : CommandKind → RequestKind
  | .identify => .headIdent
  | .selfTest => .headTest

/-- The payload of a head command's COMPLETION (section 11.4): the head, and the detail the result calls for. -/
def CommandDetail.payload (x : Head) : CommandDetail → Payload
  | .none => .head x
  | .identity serial model => .identified x serial model
  | .failSet axes => .tested x axes

/-- The port of a host origin. -/
def Origin.port : Origin → Option Port
  | .internal => none
  | .host p _ => some p

/-- A command ends (R95, R99): the slot is EMPTY, its outcome is the last command result, a FAIL raises
HEAD_SELF_TEST_FAIL:X (R97), and a host that has not been reset is sent a COMPLETION. -/
def State.endCommand (x : Head) (result : Result) (detail : CommandDetail) (s : State) : State :=
  match (s.links.get x).slot with
  | none => s
  | some c =>
    let s1 :=
      (s.modifyLink x fun l =>
        { l with slot := none, lastResult := some ⟨c.kind, c.origin.port, result, detail⟩ }).raiseIf
        (result = .fail) (.headSelfTestFail x)
    match c.origin with
    | .internal => s1
    | .host p tag =>
      if c.forgotten then s1
      else s1.complete p (Reply.completion c.kind.request tag result (detail.payload x))

/-- A command enters the slot and its COMMAND message is issued (R80, R94). -/
def State.placeCommand (x : Head) (kind : CommandKind) (origin : Origin) (s : State) : State :=
  s.modifyLink x fun l =>
    { l with slot := some ⟨kind, origin, false, s.now⟩, downstream := l.downstream ++ [.command kind] }

/-- While SYNCING and unconfirmed, an EMPTY slot is given an internal IDENTIFY at once (R88). -/
def State.keepIdentifying (x : Head) (s : State) : State :=
  let l := s.links.get x
  if l.state = .syncing ∧ l.confirmed = false ∧ l.slot = none then s.placeCommand x .identify .internal else s

/-! ## Link states (R87 to R93) -/

/-- Entry to SYNCING at an accepted frame (R87, R90). -/
def Link.syncing (l : Link) : Link :=
  { l with state := .syncing, tally := 0, goodCount := 1, confirmed := false, silence := 0 }

/-- Entry to UP (R87). -/
def Link.upped (l : Link) : Link := { l with state := .up, tally := 0, goodCount := 0, confirmed := false }

/-- UP is entered when the good count is 16 and identity is confirmed (R87). -/
def Link.tryUp (l : Link) : Link :=
  if l.state = .syncing ∧ l.goodCount = Config.bringUpFrames ∧ l.confirmed = true then l.upped else l

/-- Entry to FAULTED (R89): the command in the slot ends with LINK_LOST and LINK_FAULT:X is raised. -/
def State.enterFaulted (x : Head) (s : State) : State :=
  ((s.modifyLink x fun l => { l with state := .faulted, tally := 0, silence := 0 }).endCommand x .linkLost .none).raise
    (.linkFault x)

/-- Entry to ABSENT (R91): the command in the slot ends with LINK_LOST and LINK_LOST:X is raised. -/
def State.enterAbsent (x : Head) (s : State) : State :=
  ((s.modifyLink x fun l =>
      { l with state := .absent, silence := 0, tally := 0, goodCount := 0, confirmed := false }).endCommand x
      .linkLost .none).raise
    (.linkLost x)

/-- Entry to FOREIGN (R88). -/
def State.enterForeign (x : Head) (s : State) : State :=
  (s.modifyLink x fun l => { l with state := .foreign, goodCount := 0, confirmed := false }).raise (.headForeign x)

/-- An error of a frame, or a miss (R85). -/
inductive LinkError where
  | crcError | late | mismatch | missed
  deriving DecidableEq, Repr

/-- What an error adds to the tally in UP (R89). -/
def LinkError.weight : LinkError → Nat
  | .crcError => 8
  | .mismatch => 8
  | .missed => 4
  | .late => 4

/-- The counter of an error (R85). -/
def Link.countError (l : Link) : LinkError → Link
  | .crcError => { l with crcErrors := satInc l.crcErrors }
  | .late => { l with lates := satInc l.lates }
  | .mismatch => { l with mismatches := satInc l.mismatches }
  | .missed => { l with missed := satInc l.missed }

/-- A silence count that has reached its limit sends the link to ABSENT (R91, R92). -/
def State.checkSilence (x : Head) (s : State) : State :=
  if Config.silenceLimit ≤ (s.links.get x).silence then s.enterAbsent x else s

/-- A miss of SYNCING, UP and FOREIGN also counts as silence (R91). -/
def Link.silent (l : Link) (e : LinkError) : Link :=
  match e with
  | .missed => { l with silence := l.silence + 1 }
  | .crcError | .late | .mismatch => l

/-- An error is counted (R85) and applied to the state in force (R87, R89, R91, R92, R93). In UP the tally is
applied before the silence count (log 17). In FAULTED a miss from SEL leaves the silence count as it is, also when the strobe
that closed its window was taken before the entry, DESIGN CHOICE (log 32): R92 says both that, and that the count rises by
one in either order. Frames taken in STARTING are counted too (R101). -/
def State.linkError (x : Head) (e : LinkError) (s : State) : State :=
  let s1 := s.modifyLink x fun l => l.countError e
  match (s.links.get x).state with
  | .absent => s1
  | .faulted => s1
  | .syncing => (s1.modifyLink x fun l => { l with goodCount := 0 }.silent e).checkSilence x
  | .foreign => (s1.modifyLink x fun l => l.silent e).checkSilence x
  | .up =>
    let s2 := s1.modifyLink x fun l => { l with tally := l.tally + e.weight }.silent e
    if Config.tallyLimit ≤ (s2.links.get x).tally then s2.enterFaulted x else s2.checkSilence x

/-! ## SAMPLE frames (R83, R84, R87, R90) -/

/-- How a SAMPLE frame of link X is classified against SEL's window reference (R46, R83); none is accepted. -/
def Selector.classify (sel : Selector) (x : Head) (echo : Byte) : Option LinkError :=
  if (sel.current.map Strobe.number) = some echo ∧ (sel.frames.get x).isNone then none
  else if sel.previous = some echo then some .late
  else some .mismatch

/-- The state changes of an accepted SAMPLE frame at the link (R87, R90, R91, R93). A head restart first ends the
command in the slot with LINK_LOST (R95). -/
def State.acceptedAtLink (x : Head) (status : Byte) (s : State) : State :=
  let l := s.links.get x
  match l.state with
  | .absent => s.modifyLink x Link.syncing
  | .faulted => s.modifyLink x Link.syncing
  | .syncing =>
    s.modifyLink x fun l =>
      { l with goodCount := min (l.goodCount + 1) Config.bringUpFrames, silence := 0 }.tryUp
  | .up =>
    let s1 := s.raiseIf (newFaults l.lastStatus status ≠ 0#6) (.headSensor x)
    if statusRestarted status then (s1.endCommand x .linkLost .none).modifyLink x Link.syncing
    else s1.modifyLink x fun l => { l with tally := l.tally - 1, silence := 0 }
  | .foreign =>
    if statusRestarted status then (s.endCommand x .linkLost .none).modifyLink x Link.syncing
    else s.modifyLink x fun l => { l with silence := 0 }

/-- A SAMPLE frame accepted (R84): counted, applied to the link, its status kept, and then recorded at SEL, which
may close the window. -/
def State.acceptSample (x : Head) (f : SampleFrame) (s : State) : State :=
  (((s.modifyLink x fun l => { l with accepted := satInc l.accepted }).acceptedAtLink x f.status).modifyLink x
      (fun l => { l with lastStatus := some f.status })).keepIdentifying x |>.recordFrame x f

/-- A SAMPLE frame arrives (R83, R84). -/
def sampleArrival (x : Head) (f : SampleFrame) (s : State) : State :=
  match s.sel.classify x f.echo with
  | none => s.acceptSample x f
  | some e => (s.linkError x e).keepIdentifying x

/-- SAMPLE (R84). -/
def execSample (x : Head) (frame : SampleFrame) (s : State) : Out := whileRunning (sampleArrival x frame) s

/-! ## RESPONSE frames (R68, R83, R88, R95) -/

/-- The comparison of an IDENTIFY response with factory record X (R68): whether the identity is confirmed. -/
def Store.confirms (st : Store) (x : Head) (serial : BitVec 32) : Bool :=
  if st.factoryValidity.get x = .valid then
    (st.factoryAsRead x).serial = 0#32 || (st.factoryAsRead x).serial = serial
  else true

/-- The identity test of a link in SYNCING (R88). -/
def State.identify (x : Head) (serial : BitVec 32) (s : State) : State :=
  if (s.links.get x).state = .syncing then
    if s.store.confirms x serial then s.modifyLink x fun l => { l with confirmed := true }.tryUp
    else s.enterForeign x
  else s

/-- Whether a SELF_TEST outcome code is PASS: 0 is PASS, 1 is FAIL (section 11.8), any other code a free value. -/
def outcomePass (code : Byte) : Bool :=
  if code = 0#8 then true else if code = 1#8 then false else Config.outcomePasses code

/-- The kind of a RESPONSE (R82). -/
def responseKind : ResponseBody → CommandKind
  | .identify _ _ => .identify
  | .selfTest _ _ => .selfTest

/-- A RESPONSE of the kind in the slot ends its command (R95); an IDENTIFY in SYNCING is then compared (R88). -/
def State.acceptResponse (x : Head) (body : ResponseBody) (s : State) : State :=
  let s1 := s.modifyLink x fun l => { l with accepted := satInc l.accepted }
  match body with
  | .identify serial model => (s1.endCommand x .done (.identity serial model)).identify x serial
  | .selfTest outcome failSet =>
    if outcomePass outcome then s1.endCommand x .pass (.failSet 0#6)
    else s1.endCommand x .fail (.failSet (statusFaults failSet))

/-- A RESPONSE arrives (R83 case 2). -/
def responseArrival (x : Head) (body : ResponseBody) (s : State) : State :=
  if ((s.links.get x).slot.map Command.kind) = some (responseKind body) then
    (s.acceptResponse x body).keepIdentifying x
  else (s.linkError x .mismatch).keepIdentifying x

/-- RESPONSE (R95). -/
def execResponse (x : Head) (body : ResponseBody) (s : State) : Out := whileRunning (responseArrival x body) s

/-! ## CRC errors, timeouts, misses and strobes -/

/-- A frame arrives that R83 case 1 refuses. Bytes that are an upstream message after all are taken as that
message. -/
def brokenArrival (x : Head) (bytes : List Byte) (s : State) : State :=
  match decodeUpstream x bytes with
  | some (.sample _ f) => sampleArrival x f s
  | some (.response _ body) => responseArrival x body s
  | _ => (s.linkError x .crcError).keepIdentifying x

/-- CRC_ERROR (R83). -/
def execCrcError (x : Head) (bytes : List Byte) (s : State) : Out := whileRunning (brokenArrival x bytes) s

/-- The command in the slot has waited 100 ms (R95). -/
def State.commandTimeoutDue (s : State) (x : Head) : Bool :=
  match (s.links.get x).slot with
  | none => false
  | some c => Config.commandTimeout ≤ s.since c.sentAt

/-- The timeout of a command (R95). -/
def commandTimeout (x : Head) (s : State) : State :=
  if s.commandTimeoutDue x then (s.endCommand x .timeout .none).keepIdentifying x else s

/-- COMMAND_TIMEOUT (R95). -/
def execCommandTimeout (x : Head) (s : State) : Out := whileRunning (commandTimeout x) s

/-- A miss reported by SEL is taken at the link (R50, R85). -/
def missArrival (x : Head) (s : State) : State :=
  match s.arrivals.misses.get x with
  | 0 => s
  | n + 1 =>
    (({ s with arrivals := { s.arrivals with misses := s.arrivals.misses.set x n } } : State).linkError x
      .missed).keepIdentifying x

/-- MISS (R50). -/
def execMiss (x : Head) (s : State) : Out := whileRunning (missArrival x) s

/-- A strobe at the link (R80): STROBE(n) is sent in every state, and in FAULTED the link charges itself a miss
(R92). -/
def State.strobeAt (x : Head) (n : BitVec 8) (s : State) : State :=
  let s1 := s.modifyLink x fun l => { l with downstream := l.downstream ++ [.strobe n] }
  if (s.links.get x).state = .faulted then
    (s1.modifyLink x fun l => { l with missed := satInc l.missed, silence := l.silence + 1 }).checkSilence x
  else s1

/-- The oldest strobe in flight at the link. -/
def strobeAtLink (x : Head) (s : State) : State :=
  match s.arrivals.strobesToLink.get x with
  | [] => s
  | n :: rest =>
    ({ s with
        arrivals := { s.arrivals with strobesToLink := s.arrivals.strobesToLink.set x rest } } : State).strobeAt
      x n

/-- STROBE_AT_LINK (R80). -/
def execStrobeAtLink (x : Head) (s : State) : Out := whileRunning (strobeAtLink x) s

/-! ## HEAD_IDENT and HEAD_TEST (R96, R97) -/

/-- The checks after the head and the lease, and the acceptance of a host command (R96, R97). -/
def hostCommand (x : Head) (kind : CommandKind) (p : Port) (tag : Byte) (s : State) : Answer :=
  if (s.links.get x).state = .absent then answer s .notPresent
  else if (s.links.get x).slot ≠ none then answer s .busy
  else ⟨s.placeCommand x kind (.host p tag), .accepted, .head x⟩

/-- HEAD_IDENT at LINK (R96). -/
def headIdent (p : Port) (tag head : Byte) (s : State) : Answer :=
  match headOf head with
  | none => answer s .outOfRange
  | some x => hostCommand x .identify p tag s

/-- HEAD_IDENT (R96). -/
def execHeadIdent (r : Req) (head : Byte) (s : State) : Out := requestEnd r .headIdent (headIdent r.port r.tag head) s

/-- HEAD_TEST at LINK (R97). -/
def headTest (p : Port) (tag head : Byte) (s : State) : Answer :=
  match headOf head with
  | none => answer s .outOfRange
  | some x => if s.cfg.holds p then hostCommand x .selfTest p tag s else answer s .notHolder

/-- HEAD_TEST (R97). -/
def execHeadTest (r : Req) (head : Byte) (s : State) : Out := requestEnd r .headTest (headTest r.port r.tag head) s

/-- Whether a BUSY command was issued from a port and is not yet forgotten. -/
def Link.commandOf (l : Link) (p : Port) : Bool :=
  match l.slot with
  | none => false
  | some c => c.origin.port = some p && !c.forgotten

/-- A BUSY command issued from a port is marked forgotten (R100). -/
def Link.forget (p : Port) (l : Link) : Link :=
  if l.commandOf p then { l with slot := l.slot.map fun c => { c with forgotten := true } } else l

end Sys2Proof.Machine
end

