-- ==== Sys2Proof/Machine/TimeBase.lean ====
section
/-! DEFINITION. TB (spec/06): strobes in FREE, DIRECT and SCALED, timing changes and TIME_READ. -/

namespace Sys2Proof.Machine

/-- Microseconds since the reference time; none before the load ends (R103). -/
def State.sinceRef (s : State) : Option Nat := s.tb.refTime.map s.since

/-- At least `n` microseconds have passed since the reference time. -/
def State.refPassed (s : State) (n : Nat) : Bool :=
  match s.sinceRef with
  | none => false
  | some d => n ≤ d

/-- A strobe may be issued now under the 200 µs spacing (R106); the first strobe is not tested (R105). -/
def State.spaced (s : State) : Bool := !s.tb.strobeIssued || s.refPassed Config.minSpacing

/-! ## Internally timed strobes (R104, R108, R109, R110) -/

/-- Whether TB places strobes at the reference time plus P: FREE, FALLBACK, UNLOCKED or ACQUIRING (R104). -/
def TimeBase.internallyTimed (t : TimeBase) : Bool :=
  match t.timing.map Timing.mode with
  | none => false
  | some .free => true
  | some .direct => t.fallback = .fallback
  | some .scaled => t.lock = .unlocked || t.lock = .acquiring

/-- The fallback indication of an internally timed strobe: the mode in force is not FREE (R115). -/
def TimeBase.indicatesFallback (t : TimeBase) : Bool := t.timing.map Timing.mode ≠ some .free

/-- The nominal period in force (R104); 0 while none is. -/
def TimeBase.period (t : TimeBase) : Nat := (t.timing.map fun g => g.rate.period).getD 0

/-- An internally timed strobe is due (R104), from the reference time plus P on: a lock left after that time makes it due at
once, DESIGN CHOICE (log 34), and one taken late still falls, DESIGN CHOICE (log 26). -/
def State.freeStrobeDue (s : State) : Bool := s.tb.strobing && s.tb.internallyTimed && s.refPassed s.tb.period

/-- An internally timed strobe (R104, R108, R109). -/
def freeStrobe (s : State) : State :=
  if s.freeStrobeDue then s.issueStrobe s.now s.tb.indicatesFallback none else s

/-- FREE_STROBE (R104). -/
def execFreeStrobe (s : State) : Out := whileRunning freeStrobe s

/-! ## DIRECT (R107, R108) -/

def TimeBase.inDirect (t : TimeBase) : Bool := t.strobing && t.timing.map Timing.mode = some .direct

/-- A rising SYNC edge in DIRECT (R107, R108). -/
def syncEdge (s : State) : State :=
  if s.tb.inDirect then
    if s.spaced then
      let s' := s.issueStrobe s.now false none
      { s' with tb := { s'.tb with fallback := .edge } }
    else ({ s with tb := { s.tb with rejectCount := satInc s.tb.rejectCount } } : State).raise .syncEdgeReject
  else s

/-- SYNC_EDGE (R107). -/
def execSyncEdge (s : State) : Out := whileRunning syncEdge s

/-- The fallback check is due: DIRECT, EDGE, no accepted edge for 4 × P (R108). -/
def State.fallbackCheckDue (s : State) : Bool :=
  s.tb.inDirect && s.tb.fallback = .edge && s.refPassed (4 * s.tb.period)

/-- The fallback check (R108): FALLBACK is entered with a strobe, and SYNC_LOST is raised. -/
def fallbackCheck (s : State) : State :=
  if s.fallbackCheckDue then
    let s' := s.issueStrobe s.now true none
    ({ s' with tb := { s'.tb with fallback := .fallback } } : State).raise .syncLost
  else s

/-- FALLBACK_CHECK (R108). -/
def execFallbackCheck (s : State) : Out := whileRunning fallbackCheck s

/-! ## SCALED (R109 to R114) -/

def TimeBase.inScaled (t : TimeBase) : Bool := t.strobing && t.timing.map Timing.mode = some .scaled

/-- S in force. -/
def TimeBase.s (t : TimeBase) : Nat := (t.timing.map fun g => g.scale.toNat).getD 0

/-- A pulse interval outside 250 × S to 2000 × S (R110). -/
def TimeBase.outOfRange (t : TimeBase) (j : Nat) : Bool := j < 250 * t.s || 2000 * t.s < j

/-- |a − b| is within 1% of `i` (R110, R111). -/
def withinPercent (a b i : Nat) : Bool := 100 * ((a : Int) - (b : Int)).natAbs ≤ i

/-- A new interval begins at `origin` with the given pulse count, watching prediction `m` next (R111 to R113). Its
strobe 0 is issued now, or, less than 200 µs after the strobe before, is left to be issued when they have passed
(R106). -/
def State.startInterval (origin : Micros) (count : BitVec 16) (m : Nat) (s : State) : State :=
  if s.spaced then
    let s' := s.issueStrobe s.now false (some ⟨count, 0#16⟩)
    { s' with tb := { s'.tb with schedule := some ⟨origin, 1#16, count, m⟩ } }
  else { s with tb := { s.tb with schedule := some ⟨origin, 0#16, count, m⟩ } }

/-- LOCKED with a lock reference, strobe 0 of its first interval at the pulse (R110, R111, R113). -/
def State.lockAt (ref : LockRef) (s : State) : State :=
  ({ s with tb := { s.tb with lock := .locked, lockRef := some ref, run := AcquisitionRun.empty, lockLost := false } }
      : State).startInterval
    ref.a ref.count 1

/-- The acquisition run after a pulse at `t` that came `j` after the one before (R110). -/
def AcquisitionRun.pulse (r : AcquisitionRun) (t j : Micros) (outside : Bool) : AcquisitionRun :=
  if outside then ⟨some t, none, 0⟩
  else
    match r.inRange with
    | none => ⟨some t, some j, 1⟩
    | some i =>
      if r.count = 0 then ⟨some t, some j, 1⟩
      else if withinPercent j.toNat i.toNat i.toNat then ⟨some t, some j, r.count + 1⟩
      else ⟨some t, some j, 1⟩

/-- A pulse in ACQUIRING (R110). -/
def acquirePulse (s : State) : State :=
  match s.tb.run.lastPulse with
  | none => { s with tb := { s.tb with run := ⟨some s.now, none, 0⟩ } }
  | some last =>
    let j := s.now - last
    let outside := s.tb.outOfRange j.toNat
    let run := s.tb.run.pulse s.now j outside
    let s1 := ({ s with tb := { s.tb with run := run } } : State).raiseIf outside .scaleRange
    if run.count = 3 then s1.lockAt ⟨s.now, j, 0#16⟩ else s1

/-- A pulse that LOCKED or HOLDOVER does not accept: a new acquisition run begins from it, and lock is lost
(R112, R113). SYNC_UNLOCK is raised when it comes into force (R115). When the reference time plus P has already passed, the
next internal strobe is due at once: DESIGN CHOICE (log 34), since R112 and R113 do not say when it comes. -/
def rejectPulse (s : State) : State :=
  ({ s with
      tb :=
        { s.tb with
          lock := .acquiring, run := ⟨some s.now, none, 0⟩, lockRef := none, schedule := none, lockLost := true } }
      : State).raiseIf
    (!s.tb.lockLost) .syncUnlock

/-- A pulse in LOCKED (R111, R112). -/
def lockedPulse (ref : LockRef) (s : State) : State :=
  let j := s.now - ref.a
  if withinPercent j.toNat ref.i.toNat ref.i.toNat then
    if s.tb.outOfRange j.toNat then rejectPulse (s.raise .scaleRange) else s.lockAt ⟨s.now, j, ref.count + 1⟩
  else rejectPulse s

/-- The prediction of HOLDOVER whose window a time lies in (R113): m from 2 to 9. -/
def holdoverWindow (elapsed i : Nat) : Option Nat :=
  [2, 3, 4, 5, 6, 7, 8, 9].find? fun m => withinPercent elapsed (m * i) i

/-- A pulse in HOLDOVER (R113): a good one relocks with I unchanged and the count advanced by m. -/
def holdoverPulse (ref : LockRef) (s : State) : State :=
  match holdoverWindow (s.since ref.a) ref.i.toNat with
  | some m => s.lockAt ⟨s.now, ref.i, ref.count + BitVec.ofNat 16 m⟩
  | none => rejectPulse s

/-- A SYNC pulse in SCALED (R109 to R113). -/
def syncPulse (s : State) : State :=
  if s.tb.inScaled then
    match s.tb.lock, s.tb.lockRef with
    | .unlocked, _ => { s with tb := { s.tb with lock := .acquiring, run := ⟨some s.now, none, 0⟩ } }
    | .acquiring, _ => acquirePulse s
    | .locked, some ref => lockedPulse ref s
    | .holdover, some ref => holdoverPulse ref s
    | .locked, none => s
    | .holdover, none => s
  else s

/-- SYNC_PULSE (R111). -/
def execSyncPulse (s : State) : Out := whileRunning syncPulse s

/-- The lock reference and the schedule while the lock state is LOCKED or HOLDOVER. -/
def TimeBase.lockData (t : TimeBase) : Option (LockRef × Schedule) :=
  if t.inScaled && (t.lock = .locked || t.lock = .holdover) then
    match t.lockRef, t.schedule with
    | some r, some sch => some (r, sch)
    | _, _ => none
  else none

/-- The placement of strobe k of an interval, counted from its origin: floor(k × I / S) (R111). -/
def placement (k i s : Nat) : Nat := k * i / s

/-- A scheduled strobe is due: strobe k below S at its placement, and 200 µs after the strobe before (R106, R111). -/
def State.scheduledStrobeDue (s : State) : Bool :=
  match s.tb.lockData with
  | none => false
  | some (r, sch) =>
    sch.phase.toNat < s.tb.s && placement sch.phase.toNat r.i.toNat s.tb.s ≤ s.since sch.origin && s.spaced

/-- Strobe k of the interval (R111), tagged with its pulse count and phase (R114). -/
def scheduledStrobe (s : State) : State :=
  match s.tb.schedule with
  | none => s
  | some sch =>
    if s.scheduledStrobeDue then
      let s' := s.issueStrobe s.now false (some ⟨sch.count, sch.phase⟩)
      { s' with tb := { s'.tb with schedule := some { sch with phase := sch.phase + 1 } } }
    else s

/-- SCHEDULED_STROBE (R111). -/
def execScheduledStrobe (s : State) : Out := whileRunning scheduledStrobe s

/-- Microseconds from A to the first one after the window of prediction m: m × I + floor(I / 100) + 1 (R112). -/
def windowClose (m i : Nat) : Nat := m * i + i / 100 + 1

/-- A virtual origin is due: the window of prediction 1 in LOCKED, or of predictions up to 8 in HOLDOVER, has closed
without a good pulse (R112, R113). -/
def State.virtualOriginDue (s : State) : Bool :=
  match s.tb.lockData with
  | none => false
  | some (r, sch) =>
    (if s.tb.lock = .locked then sch.prediction = 1 else sch.prediction ≤ 8)
      && windowClose sch.prediction r.i.toNat ≤ s.since r.a

/-- A virtual origin (R112, R113): strobe 0 of the next interval, with the pulse count at A plus m. -/
def virtualOrigin (s : State) : State :=
  match s.tb.lockData with
  | none => s
  | some (r, sch) =>
    if s.virtualOriginDue then
      s.startInterval (r.a + BitVec.ofNat 48 (windowClose sch.prediction r.i.toNat))
        (r.count + BitVec.ofNat 16 sch.prediction) (sch.prediction + 1)
    else s

/-- VIRTUAL_ORIGIN (R112). -/
def execVirtualOrigin (s : State) : Out := whileRunning virtualOrigin s

/-- The holdover deadline is due: LOCKED, 1.05 × I after A (R112). -/
def State.holdoverDeadlineDue (s : State) : Bool :=
  match s.tb.lockData with
  | none => false
  | some (r, _) => s.tb.lock = .locked && 105 * r.i.toNat ≤ 100 * s.since r.a

/-- The holdover deadline (R112): HOLDOVER, lock lost, SYNC_UNLOCK raised as it comes into force (R115). -/
def holdoverDeadline (s : State) : State :=
  if s.holdoverDeadlineDue then
    ({ s with tb := { s.tb with lock := .holdover, lockLost := true } } : State).raiseIf (!s.tb.lockLost) .syncUnlock
  else s

/-- HOLDOVER_DEADLINE (R112). -/
def execHoldoverDeadline (s : State) : Out := whileRunning holdoverDeadline s

/-- The end of HOLDOVER is due: the window of prediction 9 has closed (R113). -/
def State.holdoverEndDue (s : State) : Bool :=
  match s.tb.lockData with
  | none => false
  | some (r, sch) =>
    s.tb.lock = .holdover && 9 ≤ sch.prediction && windowClose 9 r.i.toNat ≤ s.since r.a

/-- UNLOCKED with nothing of a lock left. -/
def TimeBase.unlock (t : TimeBase) : TimeBase :=
  { t with lock := .unlocked, run := AcquisitionRun.empty, lockRef := none, schedule := none }

/-- The end of HOLDOVER (R113): UNLOCKED, no virtual origin, lock lost stays. When the reference time plus P has already
passed, the next internal strobe is due at once: DESIGN CHOICE (log 34). -/
def holdoverEnd (s : State) : State := if s.holdoverEndDue then { s with tb := s.tb.unlock } else s

/-- HOLDOVER_END (R113). -/
def execHoldoverEnd (s : State) : Out := whileRunning holdoverEnd s

/-! ## Timing changes (R116) and the start (R105) -/

/-- TB under new timing items (R116). -/
def TimeBase.retime (t : TimeBase) (new : Timing) : TimeBase :=
  if t.timing = some new then t
  else
    match new.mode with
    | .free => { t.unlock with timing := some new, fallback := .edge, lockLost := false }
    | .direct =>
      if t.timing.map Timing.mode = some .direct then { t with timing := some new }
      else { t.unlock with timing := some new, fallback := .edge, lockLost := false }
    | .scaled => { t.unlock with timing := some new, lockLost := false }

/-- A strobe whose computed time has already passed when the timing changes is issued at once (R116): an internally timed
one P after the reference time, or in DIRECT the fallback strobe 4 × P after it. One that falls in this very microsecond
is left to its own event, which an edge or a further change may still precede (R108, R116). -/
def State.issueOverdue (s : State) : State :=
  if s.tb.internallyTimed then if s.refPassed (s.tb.period + 1) then freeStrobe s else s
  else if s.refPassed (4 * s.tb.period + 1) then fallbackCheck s
  else s

/-- New timing items at TB (R116): equal ones change nothing. -/
def State.changeTiming (new : Timing) (s : State) : State :=
  if s.tb.timing = some new then s else ({ s with tb := s.tb.retime new } : State).issueOverdue

/-- The oldest activation event in flight at TB (R116). -/
def timingArrival (s : State) : State :=
  match s.arrivals.timings with
  | [] => s
  | t :: rest => ({ s with arrivals := { s.arrivals with timings := rest } } : State).changeTiming t

/-- TIMING_CHANGE (R116). -/
def execTimingChange (s : State) : Out := whileRunning timingArrival s

/-- TB at the end of the load (R105): strobing is ON under the timing of the placed image, and in FREE and SCALED
strobe 0 is issued at once. -/
def State.startStrobing (timing : Timing) (s : State) : State :=
  let s1 : State := { s with tb := { s.tb with strobing := true, timing := some timing, refTime := some s.now } }
  match timing.mode with
  | .direct => s1
  | .free => s1.issueStrobe s.now false none
  | .scaled => s1.issueStrobe s.now true none

/-! ## TIME_READ (R117) -/

/-- The sync state reported (R117). -/
def TimeBase.syncState (t : TimeBase) : Option SyncState :=
  match t.timing.map Timing.mode with
  | none => none
  | some .free => some .none
  | some .direct => some (match t.fallback with | .edge => .edge | .fallback => .fallback)
  | some .scaled =>
    some (match t.lock with
      | .unlocked => .unlocked
      | .acquiring => .acquiring
      | .locked => .locked
      | .holdover => .holdover)

/-- I in LOCKED and HOLDOVER, and 0 otherwise (R117). -/
def TimeBase.reportedI (t : TimeBase) : Micros :=
  if t.lock = .locked || t.lock = .holdover then (t.lockRef.map LockRef.i).getD 0#48 else 0#48

/-- TIME_READ at TB (R117). -/
def timeRead (s : State) : Answer :=
  answer s .ok
    (.time
      { time := s.now, newest := s.hist.records.getLast?.map Publication.number, timing := s.tb.timing,
        sync := s.tb.syncState, i := s.tb.reportedI, rejects := s.tb.rejectCount })

/-- TIME_READ (R117). -/
def execTimeRead (r : Req) (s : State) : Out := requestEnd r .timeRead timeRead s

end Sys2Proof.Machine
end

