-- ==== Sys2Proof/Machine/StoreUnit.lean ====
section
/-! DEFINITION. STORE (spec/08): the start-up load, commits, and STORE_STATUS. -/

namespace Sys2Proof.Machine

/-! ## The start-up load (R66, R141, R145) -/

/-- Whether a factory record is valid: read, and its check equals the CRC-16 of the bytes before it (R66). -/
def factoryValid (r : Option FactoryRecord) : FactoryValidity :=
  match r with
  | none => .corrupt
  | some f => if crc16 f.body = f.check then .valid else .corrupt

/-- The image a slot would load, if the slot is VALID (R141), given its write count. -/
def slotImage (c : SlotContents) (writes : BitVec 32) : Option Image :=
  match c.generation, c.image, c.check with
  | some g, some bytes, some check =>
    if writes ≠ 0#32 ∧ g ≠ 0#32 ∧ check = slotCheck g bytes then
      match Image.ofBytes bytes with
      | some image => if image.inRange then some image else none
      | none => none
    else none
  | _, _, _ => none

/-- The validity of a slot (R141). -/
def classifySlot (c : SlotContents) (writes : BitVec 32) : SlotValidity :=
  if writes = 0#32 then .blank else if (slotImage c writes).isSome then .valid else .invalid

/-- The generation a slot is reported with: its own when VALID, 0 otherwise (R143). -/
def slotGenerationOf (c : SlotContents) (writes : BitVec 32) : BitVec 32 :=
  if classifySlot c writes = .valid then c.generation.getD 0#32 else 0#32

/-- What the load chooses (R145): the image, the current slot and the load outcome. -/
structure LoadChoice where
  image : Image
  current : Option Slot
  outcome : LoadOutcome
  deriving DecidableEq, Repr

/-- The choice of R145 from the two slots. -/
def Medium.choose (m : Medium) : LoadChoice :=
  match slotImage m.slots[0] m.writes[0], slotImage m.slots[1] m.writes[1] with
  | some i0, some i1 =>
    if (m.slots[0].generation.getD 0#32).toNat < (m.slots[1].generation.getD 0#32).toNat then ⟨i1, some 1, .loaded⟩
    else ⟨i0, some 0, .loaded⟩
  | some i0, none => ⟨i0, some 0, .loaded⟩
  | none, some i1 => ⟨i1, some 1, .loaded⟩
  | none, none =>
    if m.writes[0] = 0#32 ∧ m.writes[1] = 0#32 then ⟨Image.default, none, .blank⟩
    else ⟨Image.default, none, .corrupt⟩

/-- STORE as the load leaves it (R145 steps 2 and 3). -/
def Store.loadedFrom (st : Store) (m : Medium) : Store :=
  { st with
    device := .running
    state := .idle
    factory := m.factory
    factoryValidity := ⟨factoryValid m.factory.a, factoryValid m.factory.b⟩
    slotValidity := #v[classifySlot m.slots[0] m.writes[0], classifySlot m.slots[1] m.writes[1]]
    slotGeneration := #v[slotGenerationOf m.slots[0] m.writes[0], slotGenerationOf m.slots[1] m.writes[1]]
    current := m.choose.current
    loadOutcome := m.choose.outcome }

/-- The level conditions in force at the end of the load (R145 step 4). -/
def State.raiseLoadConditions (s : State) : State :=
  (((s.raiseIf (s.store.loadOutcome = .blank) .storeBlank).raiseIf (s.store.loadOutcome = .corrupt)
      .storeCorrupt).raiseIf (s.store.factoryCorrupt .A) (.factoryCorrupt .A)).raiseIf (s.store.factoryCorrupt .B)
    (.factoryCorrupt .B)

/-- The end of the start-up load (R145): the image placed with epoch 0, STORE set as found, the load conditions
raised, and strobing started. -/
def endLoad (s : State) : State :=
  let choice := s.medium.choose
  (({ s with
      cfg := { s.cfg with active := choice.image, epoch := 0#16 },
      store := s.store.loadedFrom s.medium } : State).raiseLoadConditions).startStrobing choice.image.timing

/-- The end of the load, while the hub is STARTING. -/
def startUpLoad (s : State) : State := if s.store.device = .starting then endLoad s else s

/-- START_UP_LOAD (R145). -/
def execStartUpLoad (s : State) : Out := whileRunning startUpLoad s

/-! ## Commits (R147 to R150) -/

/-- The slot a commit writes (R147): the one that is not current; without a current slot the one with the lower write
count, slot 0 when they are equal. After a FAILED commit without a current slot R150 has the same slot targeted again, which
this rule need not do: that R147 decides there too is DESIGN CHOICE (log 39). -/
def targetSlot (current : Option Slot) (writes : Vector (BitVec 32) 2) : Slot :=
  match current with
  | some 0 => 1
  | some 1 => 0
  | none => if writes[1].toNat < writes[0].toNat then 1 else 0

/-- The generation of the current slot; 0 without one (R147). -/
def Store.currentGeneration (st : Store) : BitVec 32 :=
  match st.current with
  | none => 0#32
  | some c => st.slotGeneration[c]

/-- STORE_COMMIT accepted (R148). The erase has begun: the target's check is no longer whole. -/
def State.beginCommit (p : Port) (tag : Byte) (s : State) : State :=
  let t := targetSlot s.store.current s.medium.writes
  { s with
    medium :=
      { s.medium with
        writes := s.medium.writes.set t (s.medium.writes[t] + 1),
        slots := s.medium.slots.set t { s.medium.slots[t] with check := none } },
    store :=
      { s.store with
        commit := some ⟨p, tag, false, s.cfg.active, ⟨t, s.store.currentGeneration + 1, s.cfg.epoch⟩⟩,
        slotValidity := s.store.slotValidity.set t .invalid,
        slotGeneration := s.store.slotGeneration.set t 0#32,
        state := .erasing, phaseStart := s.now } }

/-- STORE_COMMIT at STORE (R147, R148). -/
def storeCommit (p : Port) (tag : Byte) (s : State) : Answer :=
  let t := targetSlot s.store.current s.medium.writes
  if s.cfg.holds p = false then answer s .notHolder
  else if s.store.busy then answer s .busy
  else if Config.writeLimit ≤ (s.medium.writes[t]).toNat then answer s .worn
  else if s.store.current ≠ none ∧ s.store.currentGeneration = BitVec.allOnes 32 then answer s .worn
  else
    ⟨s.beginCommit p tag, .accepted, .commit ⟨t, s.store.currentGeneration + 1, s.cfg.epoch⟩⟩

/-- STORE_COMMIT (R148). -/
def execStoreCommit (r : Req) (s : State) : Out := requestEnd r .storeCommit (storeCommit r.port r.tag) s

/-- A phase of a commit has run its time (R149, R150). -/
def State.phaseDue (s : State) (state : StoreState) (micros : Nat) : Bool :=
  s.store.state = state && s.store.commit.isSome && micros ≤ s.since s.store.phaseStart

def State.erasingDue (s : State) : Bool := s.phaseDue .erasing Config.erasingMicros
def State.writingDue (s : State) : Bool := s.phaseDue .writing Config.writingMicros
def State.verifyingDue (s : State) : Bool := s.phaseDue .verifying Config.verifyingMicros

/-- The end of ERASING (R149): every field of the target is erased (R141), and WRITING begins, within which the new
generation and the snapshot are written. -/
def erasingEnd (s : State) : State :=
  match s.store.commit with
  | none => s
  | some c =>
    if s.erasingDue then
      { s with
        medium :=
          { s.medium with slots := s.medium.slots.set c.report.target ⟨none, none, none⟩ },
        store := { s.store with state := .writing, phaseStart := s.now } }
    else s

/-- ERASING_END (R149). -/
def execErasingEnd (s : State) : Out := whileRunning erasingEnd s

/-- What a slot holds when the writing of a commit into it ends (R149): the new generation and the snapshot, or, after a
fault of the medium, what its outcome says, the check left as it was. -/
def MediumOutcome.apply (m : MediumOutcome) (c : Commit) (slot : SlotContents) : SlotContents :=
  match m with
  | .sound => { slot with generation := some c.report.generation, image := some c.snapshot.bytes }
  | .spoiled g i => { slot with generation := g, image := i }

/-- The end of WRITING (R149): the new generation and the snapshot have been written, VERIFYING begins, and the target is
read back. A fault of the medium shows in what the slot holds. That both fields appear in the slot at this event is DESIGN
CHOICE (log 10): R149 has them written within WRITING. -/
def writingEnd (outcome : MediumOutcome) (s : State) : State :=
  match s.store.commit with
  | none => s
  | some c =>
    if s.writingDue then
      let held := MediumOutcome.apply outcome c s.medium.slots[c.report.target]
      { s with
        medium := { s.medium with slots := s.medium.slots.set c.report.target held },
        store := { s.store with state := .verifying, phaseStart := s.now, readBack := some held } }
    else s

/-- WRITING_END (R149). -/
def execWritingEnd (medium : MediumOutcome) (s : State) : Out := whileRunning (writingEnd medium) s

/-- The read-back equals what was to be written (R150). -/
def Commit.matches (c : Commit) (readBack : Option SlotContents) : Bool :=
  match readBack with
  | none => false
  | some r => r.generation = some c.report.generation && r.image = some c.snapshot.bytes

/-- The COMPLETION of a commit (R151), unless it is forgotten. -/
def State.reportCommit (c : Commit) (result : Result) (s : State) : State :=
  if c.forgotten then s
  else s.complete c.port (Reply.completion .storeCommit c.tag result (.commit c.report))

/-- A commit ends DONE (R150). -/
def State.commitDone (c : Commit) (s : State) : State :=
  let t := c.report.target
  ({ s with
      medium :=
        { s.medium with
          slots :=
            s.medium.slots.set t
              { s.medium.slots[t] with check := some (slotCheck c.report.generation c.snapshot.bytes) } },
      store :=
        { s.store with
          slotValidity := s.store.slotValidity.set t .valid,
          slotGeneration := s.store.slotGeneration.set t c.report.generation,
          current := some t, loadOutcome := .loaded, last := some ⟨true, c.report⟩, commit := none, readBack := none,
          state := .idle } } : State).reportCommit
    c .done

/-- A commit ends FAILED (R150). -/
def State.commitFailed (c : Commit) (s : State) : State :=
  (({ s with
        store :=
          { s.store with last := some ⟨false, c.report⟩, commit := none, readBack := none, state := .idle } }
      : State).raise
      .storeWriteFail).reportCommit
    c .failed

/-- The end of VERIFYING (R150). -/
def verifyingEnd (s : State) : State :=
  match s.store.commit with
  | none => s
  | some c =>
    if s.verifyingDue then
      if c.matches s.store.readBack then s.commitDone c else s.commitFailed c
    else s

/-- VERIFYING_END (R150). -/
def execVerifyingEnd (s : State) : Out := whileRunning verifyingEnd s

/-- A commit issued from a port and not yet forgotten is in flight. -/
def Store.commitOf (st : Store) (p : Port) : Bool :=
  match st.commit with
  | none => false
  | some c => c.port = p && !c.forgotten

/-- A commit issued from a port is marked forgotten (R151). -/
def Store.forget (st : Store) (p : Port) : Store :=
  if st.commitOf p then { st with commit := st.commit.map fun c => { c with forgotten := true } } else st

/-! ## STORE_STATUS (R154) -/

def State.storeReport (s : State) : StoreReport :=
  { state := s.store.state, current := s.store.current, loadOutcome := s.store.loadOutcome,
    validity := s.store.slotValidity, generation := s.store.slotGeneration, writes := s.medium.writes,
    inFlight := s.store.commit.map Commit.report, last := s.store.last, epoch := s.cfg.epoch }

/-- STORE_STATUS at STORE (R154). -/
def storeStatus (s : State) : Answer := answer s .ok (.storeStatus s.storeReport)

/-- STORE_STATUS (R154). -/
def execStoreStatus (r : Req) (s : State) : Out := requestEnd r .storeStatus storeStatus s

end Sys2Proof.Machine
end

