-- ==== Sys2Proof/Machine/Health.lean ====
section
/-! DEFINITION. COND (spec/09): re-evaluation of level conditions, COND_READ and the health snapshot. -/

namespace Sys2Proof.Machine

/-- The level conditions in force (R160), those of SEL as handed with a publication. -/
def State.levelsInForce (s : State) (r : LevelReport) : List Cond :=
  [(r.held, Cond.publishHeld), (r.disagree, .headDisagree), (s.tb.syncLost, .syncLost), (s.tb.syncUnlock, .syncUnlock),
    (decide (s.store.loadOutcome = .blank), .storeBlank), (decide (s.store.loadOutcome = .corrupt), .storeCorrupt),
    (s.store.factoryCorrupt .A, .factoryCorrupt .A), (s.store.factoryCorrupt .B, .factoryCorrupt .B)].filterMap
    fun e => if e.1 then some e.2 else none

/-- The oldest publication in flight at COND (R161): every level condition in force is raised. -/
def levelArrival (s : State) : State :=
  match s.arrivals.atCond with
  | [] => s
  | r :: rest =>
    (s.levelsInForce r).foldl (fun t c => t.raise c) { s with arrivals := { s.arrivals with atCond := rest } }

/-- LEVEL_RE_EVALUATION (R161). -/
def execLevelReEvaluation (s : State) : Out := whileRunning levelArrival s

/-- A port's condition set made empty (R157). -/
def State.clearConditions (p : Port) (s : State) : State :=
  { s with cond := { s.cond with sets := s.cond.sets.set p [] } }

/-- COND_READ at COND (R163). -/
def condRead (p : Port) (s : State) : Answer := ⟨s.clearConditions p, .ok, .conditions s.cond.sets[p]⟩

/-- COND_READ (R163). -/
def execCondRead (r : Req) (s : State) : Out := requestEnd r .condRead (condRead r.port) s

/-- The items of a link (R167). -/
def Link.report (l : Link) : LinkReport :=
  { state := l.state, tally := l.tally, goodCount := l.goodCount, silence := l.silence, lastStatus := l.lastStatus,
    accepted := l.accepted, crcErrors := l.crcErrors, lates := l.lates, mismatches := l.mismatches,
    missed := l.missed, lastResult := l.lastResult }

/-- A link in the snapshot (R167): its part-reset values during STARTING, ABSENT with all counts and counters 0, and from the
end of the load as the link holds them. That the frames counted in STARTING (R101) show only then is DEDUCED (log 35). -/
def State.linkReport (s : State) (x : Head) : LinkReport :=
  if s.store.device = .starting then Link.reset.report else (s.links.get x).report

/-- The health snapshot (R167). -/
def State.healthReport (s : State) : HealthReport :=
  { device := s.store.device, time := s.now, links := ⟨s.linkReport .A, s.linkReport .B⟩, source := s.sel.source,
    heldCount := s.sel.heldCount, agreement := s.sel.agreement, agreementCount := s.sel.agreementCount,
    sync :=
      match s.tb.timing, s.tb.syncState with
      | some t, some st => some (t.mode, st)
      | _, _ => none
    i := s.tb.reportedI, rejects := s.tb.rejectCount, store := s.store.state, current := s.store.current,
    slotValidity := s.store.slotValidity, loadOutcome := s.store.loadOutcome,
    factoryValidity := s.store.factoryValidity, holder := s.cfg.lease.map Lease.holder,
    waiters := s.cfg.waiters.map Waiter.port, contexts := s.delta.contexts.map fun e => e.map fun c => (c.state, c.owner),
    counts := s.cond.counts }

/-- HEALTH_READ at COND (R166). -/
def healthRead (s : State) : Answer := answer s .ok (.health s.healthReport)

/-- HEALTH_READ (R166). -/
def execHealthRead (r : Req) (s : State) : Out := requestEnd r .healthRead healthRead s

end Sys2Proof.Machine
end

