-- ==== Sys2Proof/Machine/History.lean ====
section
/-! DEFINITION. HIST (spec/02): the ring, the ports' cursors and watermarks, and the history requests. -/

namespace Sys2Proof.Machine

/-- The cursor state of a port as it stands (R32). -/
def State.cursorState (s : State) (p : Port) : CursorState :=
  let r := s.hist.readers[p]
  ⟨r.cursor, s.hist.unread p, r.watermark, r.skipTotal⟩

/-- Evaluates one port's watermark indication afresh (R31). -/
def State.evaluateWatermark (p : Port) (s : State) : State :=
  s.modifyReader p fun r => r.evaluate s.hist.next

/-- The `k` records from a port's cursor onward, in ascending number (R33). -/
def History.fromCursor (h : History) (p : Port) (k : Nat) : List Publication :=
  (h.records.drop (h.readers[p].cursor - h.oldest).toNat).take k

/-- HIST_READ at HIST (R33). -/
def histRead (p : Port) (max : Byte) (s : State) : Answer :=
  if max.toNat < 1 ∨ 4 < max.toNat then answer s .outOfRange (.cursor (s.cursorState p))
  else
    let k := min max.toNat (s.hist.unread p).toNat
    let records := s.hist.fromCursor p k
    let skipped := s.hist.readers[p].skippedSinceRead
    let s' :=
      s.modifyReader p fun r =>
        ({ r with cursor := r.cursor + BitVec.ofNat 48 k, skippedSinceRead := 0#16 } : Reader).evaluate s.hist.next
    ⟨s', if k = 0 then .empty else .ok, .histRead records skipped (s'.cursorState p)⟩

/-- HIST_READ (R33, R34). -/
def execHistRead (r : Req) (max : Byte) (s : State) : Out := requestEnd r .histRead (histRead r.port max) s

/-- HIST_PEEK at HIST (R35). -/
def histPeek (p : Port) (s : State) : Answer :=
  match s.hist.records.getLast? with
  | none => answer s .empty (.cursor (s.cursorState p))
  | some newest => answer s .ok (.histPeek (s.cursorState p) newest)

/-- HIST_PEEK (R35). -/
def execHistPeek (r : Req) (s : State) : Out := requestEnd r .histPeek (histPeek r.port) s

/-- Where a seek sets the cursor, if it is not refused (R36). -/
def History.seekTarget (h : History) (form : SeekForm) (n : PubNum) : Option PubNum :=
  match form with
  | .oldest => some h.oldest
  | .newest => some (if h.records.isEmpty then h.next else h.next - 1)
  | .next => some h.next
  | .absolute => if (n - h.oldest).toNat ≤ h.records.length then some n else none

/-- HIST_SEEK at HIST (R36). -/
def histSeek (p : Port) (form : Byte) (n : PubNum) (s : State) : Answer :=
  match (seekFormOf form).bind fun f => s.hist.seekTarget f n with
  | none => answer s .outOfRange (.cursor (s.cursorState p))
  | some target =>
    let s' := s.modifyReader p fun r => ({ r with cursor := target } : Reader).evaluate s.hist.next
    ⟨s', .ok, .cursor (s'.cursorState p)⟩

/-- HIST_SEEK (R36). -/
def execHistSeek (r : Req) (form : Byte) (number : PubNum) (s : State) : Out :=
  requestEnd r .histSeek (histSeek r.port form number) s

/-- HIST_WATERMARK at HIST (R37). -/
def histWatermark (p : Port) (value : BitVec 16) (s : State) : Answer :=
  if Config.historyCapacity < value.toNat then answer s .outOfRange (.cursor (s.cursorState p))
  else
    let s' := s.modifyReader p fun r => ({ r with watermark := value } : Reader).evaluate s.hist.next
    ⟨s', .ok, .cursor (s'.cursorState p)⟩

/-- HIST_WATERMARK (R37). -/
def execHistWatermark (r : Req) (value : BitVec 16) (s : State) : Out :=
  requestEnd r .histWatermark (histWatermark r.port value) s

/-! ## Appends (R26, R29) -/

/-- An overrun reader: moved on by one record, its loss counted (R29). -/
def Reader.overrun (r : Reader) : Reader :=
  { r with
    cursor := r.cursor + 1, skipTotal := satInc r.skipTotal, skippedSinceRead := satInc r.skippedSinceRead }

/-- The overrun test of one port against a dropped record (R29). -/
def State.overrunPort (dropped : PubNum) (p : Port) (s : State) : State :=
  if s.hist.readers[p].cursor = dropped then (s.modifyReader p Reader.overrun).raisePort .ringOverrun p else s

/-- Step 1 of an append (R26): a full ring drops its oldest record, whose number goes to DELTA, and every port is
tested for overrun (R29). -/
def State.dropOldest (s : State) : State :=
  let dropped := s.hist.oldest
  let s1 : State :=
    { s with
      hist := { s.hist with records := s.hist.records.tail },
      arrivals := { s.arrivals with drops := s.arrivals.drops ++ [dropped] } }
  (((s1.overrunPort dropped 0).overrunPort dropped 1).overrunPort dropped 2).overrunPort dropped 3

/-- Steps 2 and 3 of an append (R26): the record takes the newest end, next advances, and every port's watermark
indication is evaluated. -/
def State.placeRecord (p : Publication) (s : State) : State :=
  let next := s.hist.next + 1
  { s with
    hist :=
      { records := s.hist.records ++ [p], next := next, readers := s.hist.readers.map fun r => r.evaluate next } }

/-- The append of a publication as one event (R26). -/
def State.appendRecord (p : Publication) (s : State) : State :=
  (if Config.historyCapacity ≤ s.hist.records.length then s.dropOldest else s).placeRecord p

/-- The arrival of the oldest publication in flight at HIST (R26). -/
def appendArrival (s : State) : State :=
  match s.arrivals.appends with
  | [] => s
  | p :: rest => ({ s with arrivals := { s.arrivals with appends := rest } } : State).appendRecord p

/-- APPEND (R26). -/
def execAppend (s : State) : Out := whileRunning appendArrival s

/-- The history state of a port after its PORT_RESET (R41). -/
def State.resetReader (p : Port) (s : State) : State :=
  s.modifyReader p fun _ => ⟨s.hist.next, 0#16, 0#32, 0#16, false⟩

end Sys2Proof.Machine
end

