-- ==== Sys2Proof/Machine/Ports.lean ====
section
/-! DEFINITION. PORT 0 to 3 (spec/10): chip select, NOP, arriving completions, and the requests of the port itself. -/

namespace Sys2Proof.Machine

/-! ## Chip select falls (R170, R178) -/

/-- A transaction that begins now is EARLY: less than 2 µs have passed since the port's previous one ended (R172). The
microsecond counter tells, and where it has counted exactly 2, whether the fall comes sooner in its microsecond than that
end did, DESIGN CHOICE (log 12). The first transaction has none before it. -/
def State.earlyFall (s : State) (p : Port) (sooner : Bool) : Bool :=
  match s.ports[p].lastEnd with
  | none => false
  | some e => s.since e < Config.earlyLimit || (s.since e = Config.earlyLimit && sooner)

/-- The transaction of a reply: its bytes formed now, with its sent count and the status summary (R170), and whether it is
EARLY (R172). -/
def State.formReply (s : State) (p : Port) (sooner : Bool) : Transaction × List QueuedReply :=
  match s.ports[p].queue with
  | [] => (⟨false, Reply.filler.wire 1#8 (s.statusSummary p), s.earlyFall p sooner⟩, [])
  | q :: rest =>
    let sent := satInc q.sent
    (⟨true, q.reply.wire sent (s.statusSummary p), s.earlyFall p sooner⟩, { q with sent := sent } :: rest)

/-- Chip select of a port falls. Held in part reset or unpowered the port begins no transaction (R184, R191). -/
def chipSelectFall (p : Port) (sooner : Bool) (s : State) : State :=
  if s.ports[p].csLow then s
  else if s.power = .running then
    let f := s.formReply p sooner
    s.modifyPort p fun q => { q with csLow := true, txn := some f.1, queue := f.2 }
  else s.modifyPort p fun q => { q with csLow := true }

/-- CHIP_SELECT_FALL (R170). -/
def execChipSelectFall (p : Port) (sooner : Bool) (s : State) : Out := .next (chipSelectFall p sooner s)

/-- NOP (R182): the transaction ends, a reply it sent whole is removed, and no request is taken. -/
def execNop (p : Port) (clocked : Nat) (s : State) : Out := .next (s.endTransaction p clocked fun _ t => t)

/-! ## Completions (R176) -/

/-- A COMPLETION in flight arrives at its port (R176). -/
def completionArrival (index : Nat) (s : State) : State :=
  match s.arrivals.completions[index]? with
  | none => s
  | some c =>
    ({ s with
        arrivals := { s.arrivals with completions := s.arrivals.completions.eraseIdx index } } : State).appendReply
      c.port c.reply

/-- COMPLETION_ARRIVAL (R176). -/
def execCompletionArrival (index : Nat) (s : State) : Out := whileRunning (completionArrival index) s

/-! ## Port requests (R180, R181, R183) -/

/-- IDENTIFY (R181). -/
def execIdentify (r : Req) (s : State) : Out := requestEnd r .identify (fun t => answer t .ok .identify) s

/-- SET_ATTENTION at the port (R180). The truth reported is that before the reply itself is queued. -/
def setAttention (p : Port) (mask : Byte) (s : State) : Answer :=
  match AttnSet.ofByte mask with
  | none => answer s .outOfRange
  | some m => ⟨s.modifyPort p fun q => { q with mask := m }, .ok, .attention m (s.sources p)⟩

/-- SET_ATTENTION (R180). -/
def execSetAttention (r : Req) (mask : Byte) (s : State) : Out := requestEnd r .setAttention (setAttention r.port mask) s

/-- A COMPLETION on its way to a port that is reset is never sent (R183). -/
def Arrivals.withoutCompletions (a : Arrivals) (p : Port) : Arrivals :=
  { a with completions := a.completions.filter fun c => c.port ≠ p }

/-- PORT_RESET as one event (R183), its own reply apart. -/
def portReset (p : Port) (s : State) : Answer :=
  let discarded := s.ports[p].queue.length
  let freed := s.delta.owned p
  let commits := if s.store.commitOf p then 1 else 0
  let commands := (if s.links.a.commandOf p then 1 else 0) + (if s.links.b.commandOf p then 1 else 0)
  let s1 := s.modifyPort p fun q => { q with queue := [], mask := AttnSet.default }
  let s2 := ((s1.clearConditions p).resetReader p).freeContexts p
  let lease := s2.resetLease p
  let s3 := lease.1
  ⟨{ s3 with
      links := ⟨s3.links.a.forget p, s3.links.b.forget p⟩,
      store := s3.store.forget p,
      arrivals := s3.arrivals.withoutCompletions p },
    .ok, .portReset discarded freed lease.2 commits commands⟩

/-- PORT_RESET (R183). -/
def execPortReset (r : Req) (s : State) : Out := requestEnd r .portReset (portReset r.port) s

end Sys2Proof.Machine
end

