-- ==== Sys2Proof/Machine/Requests.lean ====
section
/-! DEFINITION. MALFORMED_REQUEST (R172): the examination of the bytes of a transaction. -/

namespace Sys2Proof.Machine

/-- What the port does with the bytes received (R172), the end of the transaction and its removal done. -/
def takeMalformed (p : Port) (bytes : List Byte) (found : Received) (early : Bool) (s : State) : State :=
  let kind := byteAt bytes 0
  let tag := byteAt bytes 1
  if early then s.frameError p kind tag .early bytes.length
  else
    match found with
    | .frameError reason => s.frameError p kind tag reason bytes.length
    | .unknownKind => s.appendReply p ⟨kind, tag, .unknownKind, .none⟩
    | .badLength => s.appendReply p ⟨kind, tag, .badLength, .none⟩
    | .nothing => s
    | .request _ => s

/-- The end of a transaction whose bytes are a request of section 10.6: that request's own command. -/
def carryOut (i : Instr) (s : State) : Out :=
  match i with
  | .identify r => execIdentify r s
  | .portReset r => execPortReset r s
  | .setAttention r mask => execSetAttention r mask s
  | .condRead r => execCondRead r s
  | .healthRead r => execHealthRead r s
  | .timeRead r => execTimeRead r s
  | .histRead r max => execHistRead r max s
  | .histPeek r => execHistPeek r s
  | .histSeek r form number => execHistSeek r form number s
  | .histWatermark r value => execHistWatermark r value s
  | .deltaOpen r label period form number => execDeltaOpen r label period form number s
  | .deltaTake r ctx => execDeltaTake r ctx s
  | .deltaCollect r ctx => execDeltaCollect r ctx s
  | .deltaClose r ctx discard => execDeltaClose r ctx discard s
  | .deltaStatus r ctx => execDeltaStatus r ctx s
  | .calRead r head form => execCalRead r head form s
  | .headIdent r head => execHeadIdent r head s
  | .headTest r head => execHeadTest r head s
  | .leaseAcquire r wait period => execLeaseAcquire r wait period s
  | .leaseRelease r => execLeaseRelease r s
  | .stageCal r head group values => execStageCal r head group values s
  | .stageSource r mode holdOff => execStageSource r mode holdOff s
  | .stageThresholds r gyro accel => execStageThresholds r gyro accel s
  | .stageTiming r rate mode scale => execStageTiming r rate mode scale s
  | .stageRead r => execStageRead r s
  | .stageDiscard r => execStageDiscard r s
  | .activate r => execActivate r s
  | .storeCommit r => execStoreCommit r s
  | .storeStatus r => execStoreStatus r s
  | .partReset _ | .resetRelease | .startUpLoad | .chipSelectFall _ _ | .nop _ _ | .malformedRequest _ _
  | .erasingEnd | .writingEnd _ | .verifyingEnd | .completionArrival _ | .leaseExpiry | .freeStrobe | .syncEdge
  | .fallbackCheck | .syncPulse | .scheduledStrobe | .virtualOrigin | .holdoverDeadline | .holdoverEnd | .timingChange
  | .strobeAtSel | .strobeAtLink _ | .sample _ _ | .response _ _ | .crcError _ _ | .commandTimeout _ | .miss _
  | .append | .publicationAtDelta | .walkStep _ | .dropAtDelta | .levelReEvaluation | .powerLoss => .next s

/-- MALFORMED_REQUEST (R172). Bytes that carry nothing end as a NOP (R182), and bytes that are a request after all
are carried out as that request. -/
def execMalformedRequest (p : Port) (bytes : List Byte) (s : State) : Out :=
  match decodeRequest p bytes with
  | .nothing => .next (s.endTransaction p bytes.length fun _ t => t)
  | .request i => carryOut i s
  | .frameError reason => .next (s.endTransaction p bytes.length (takeMalformed p bytes (.frameError reason)))
  | .unknownKind => .next (s.endTransaction p bytes.length (takeMalformed p bytes .unknownKind))
  | .badLength => .next (s.endTransaction p bytes.length (takeMalformed p bytes .badLength))

end Sys2Proof.Machine
end

