-- ==== Sys2Proof/Machine/Resets.lean ====
section
/-! DEFINITION. Part reset, its release, and the supply (R143, R144, R153, R184, R191). -/

namespace Sys2Proof.Machine

/-- Every block at its part-reset values; the medium (R143), the chip select pins (R184) and the queue of commands
stay. -/
def State.resetBlocks (power : Power) (s : State) : State :=
  { State.reset with
    pending := s.pending, power := power, medium := s.medium,
    ports := s.ports.map fun q => { PortState.reset with csLow := q.csLow } }

/-- Whether a cause is a part reset (R191): power-on, or RESET low for at least 10 µs with supply. -/
def ResetCause.takes (c : ResetCause) (power : Power) : Bool :=
  match c with
  | .powerOn => true
  | .resetLow micros => Config.resetLowMicros ≤ micros && power ≠ .unpowered

/-- PART_RESET (R191): the hub is held in part reset; a shorter low level is ignored. -/
def execPartReset (cause : ResetCause) (s : State) : Out :=
  if ResetCause.takes cause s.power then .next (s.resetBlocks .heldInReset) else .next s

/-- RESET_RELEASE (R144, R191): the timestamp counter starts from 0 and the device is STARTING. -/
def execResetRelease (s : State) : Out :=
  if s.power = .heldInReset then .next (s.resetBlocks .running) else .next s

/-- POWER_LOSS (R153): everything but the medium is lost, until the next power-on. -/
def execPowerLoss (s : State) : Out := .next (s.resetBlocks .unpowered)

end Sys2Proof.Machine
end

