-- ==== Sys2Proof/Machine/Dispatch.lean ====
section
/-! DEFINITION. The meaning of every command: one arm for each constructor. -/

namespace Sys2Proof.Machine

def exec (i : Instr) (s : State) : Host.Outcome State Fault Refusal :=
  match i with
  | .partReset cause => Sys2Proof.Machine.execPartReset cause s
  | .resetRelease => Sys2Proof.Machine.execResetRelease s
  | .startUpLoad => Sys2Proof.Machine.execStartUpLoad s
  | .chipSelectFall p sooner => Sys2Proof.Machine.execChipSelectFall p sooner s
  | .nop p clocked => Sys2Proof.Machine.execNop p clocked s
  | .malformedRequest p bytes => Sys2Proof.Machine.execMalformedRequest p bytes s
  | .identify r => Sys2Proof.Machine.execIdentify r s
  | .portReset r => Sys2Proof.Machine.execPortReset r s
  | .setAttention r mask => Sys2Proof.Machine.execSetAttention r mask s
  | .condRead r => Sys2Proof.Machine.execCondRead r s
  | .healthRead r => Sys2Proof.Machine.execHealthRead r s
  | .timeRead r => Sys2Proof.Machine.execTimeRead r s
  | .histRead r max => Sys2Proof.Machine.execHistRead r max s
  | .histPeek r => Sys2Proof.Machine.execHistPeek r s
  | .histSeek r form number => Sys2Proof.Machine.execHistSeek r form number s
  | .histWatermark r value => Sys2Proof.Machine.execHistWatermark r value s
  | .deltaOpen r label period form number => Sys2Proof.Machine.execDeltaOpen r label period form number s
  | .deltaTake r ctx => Sys2Proof.Machine.execDeltaTake r ctx s
  | .deltaCollect r ctx => Sys2Proof.Machine.execDeltaCollect r ctx s
  | .deltaClose r ctx discard => Sys2Proof.Machine.execDeltaClose r ctx discard s
  | .deltaStatus r ctx => Sys2Proof.Machine.execDeltaStatus r ctx s
  | .calRead r head form => Sys2Proof.Machine.execCalRead r head form s
  | .headIdent r head => Sys2Proof.Machine.execHeadIdent r head s
  | .headTest r head => Sys2Proof.Machine.execHeadTest r head s
  | .leaseAcquire r wait period => Sys2Proof.Machine.execLeaseAcquire r wait period s
  | .leaseRelease r => Sys2Proof.Machine.execLeaseRelease r s
  | .stageCal r head group values => Sys2Proof.Machine.execStageCal r head group values s
  | .stageSource r mode holdOff => Sys2Proof.Machine.execStageSource r mode holdOff s
  | .stageThresholds r gyro accel => Sys2Proof.Machine.execStageThresholds r gyro accel s
  | .stageTiming r rate mode scale => Sys2Proof.Machine.execStageTiming r rate mode scale s
  | .stageRead r => Sys2Proof.Machine.execStageRead r s
  | .stageDiscard r => Sys2Proof.Machine.execStageDiscard r s
  | .activate r => Sys2Proof.Machine.execActivate r s
  | .storeCommit r => Sys2Proof.Machine.execStoreCommit r s
  | .storeStatus r => Sys2Proof.Machine.execStoreStatus r s
  | .erasingEnd => Sys2Proof.Machine.execErasingEnd s
  | .writingEnd medium => Sys2Proof.Machine.execWritingEnd medium s
  | .verifyingEnd => Sys2Proof.Machine.execVerifyingEnd s
  | .completionArrival index => Sys2Proof.Machine.execCompletionArrival index s
  | .leaseExpiry => Sys2Proof.Machine.execLeaseExpiry s
  | .freeStrobe => Sys2Proof.Machine.execFreeStrobe s
  | .syncEdge => Sys2Proof.Machine.execSyncEdge s
  | .fallbackCheck => Sys2Proof.Machine.execFallbackCheck s
  | .syncPulse => Sys2Proof.Machine.execSyncPulse s
  | .scheduledStrobe => Sys2Proof.Machine.execScheduledStrobe s
  | .virtualOrigin => Sys2Proof.Machine.execVirtualOrigin s
  | .holdoverDeadline => Sys2Proof.Machine.execHoldoverDeadline s
  | .holdoverEnd => Sys2Proof.Machine.execHoldoverEnd s
  | .timingChange => Sys2Proof.Machine.execTimingChange s
  | .strobeAtSel => Sys2Proof.Machine.execStrobeAtSel s
  | .strobeAtLink x => Sys2Proof.Machine.execStrobeAtLink x s
  | .sample x frame => Sys2Proof.Machine.execSample x frame s
  | .response x body => Sys2Proof.Machine.execResponse x body s
  | .crcError x bytes => Sys2Proof.Machine.execCrcError x bytes s
  | .commandTimeout x => Sys2Proof.Machine.execCommandTimeout x s
  | .miss x => Sys2Proof.Machine.execMiss x s
  | .append => Sys2Proof.Machine.execAppend s
  | .publicationAtDelta => Sys2Proof.Machine.execPublicationAtDelta s
  | .walkStep c => Sys2Proof.Machine.execWalkStep c s
  | .dropAtDelta => Sys2Proof.Machine.execDropAtDelta s
  | .levelReEvaluation => Sys2Proof.Machine.execLevelReEvaluation s
  | .powerLoss => Sys2Proof.Machine.execPowerLoss s

end Sys2Proof.Machine
end

