-- ==== Sys2Proof/Machine/Idle.lean ====
section
/-! DEFINITION. What the hub does when no command waits: it takes one of its own due events, in one fixed order, and
when none is due the microsecond counter advances by one (log 1, log 2). -/

namespace Sys2Proof.Machine

/-- A command, if it is due. -/
def dueIf (due : Bool) (c : Instr) : Option Instr := if due then some c else none

/-- Events that another block has issued and that wait at their own block, in the model's order (log 2). -/
def State.arrivalsDue (s : State) : List (Option Instr) :=
  [dueIf (!s.arrivals.timings.isEmpty) .timingChange,
    dueIf (!s.arrivals.strobesToLink.a.isEmpty) (.strobeAtLink .A),
    dueIf (!s.arrivals.strobesToLink.b.isEmpty) (.strobeAtLink .B),
    dueIf (!s.arrivals.strobesToSel.isEmpty) .strobeAtSel,
    dueIf (s.arrivals.misses.a ≠ 0) (.miss .A),
    dueIf (s.arrivals.misses.b ≠ 0) (.miss .B),
    dueIf (!s.arrivals.appends.isEmpty) .append,
    dueIf (!s.arrivals.drops.isEmpty) .dropAtDelta,
    dueIf (!s.arrivals.atDelta.isEmpty) .publicationAtDelta,
    dueIf (!s.arrivals.atCond.isEmpty) .levelReEvaluation,
    dueIf (!s.arrivals.completions.isEmpty) (.completionArrival 0)]

/-- Timers that the counter has reached, in the model's order (log 2). The hub's own end of WRITING finds the medium sound:
DESIGN CHOICE (log 37); a fault of the medium comes with the command WRITING_END. -/
def State.timersDue (s : State) : List (Option Instr) :=
  [dueIf (s.store.device = .starting && decide (Config.loadMicros ≤ s.now.toNat)) .startUpLoad,
    dueIf s.erasingDue .erasingEnd,
    dueIf s.writingDue (.writingEnd .sound),
    dueIf s.verifyingDue .verifyingEnd,
    dueIf s.leaseExpiryDue .leaseExpiry,
    dueIf (s.commandTimeoutDue .A) (.commandTimeout .A),
    dueIf (s.commandTimeoutDue .B) (.commandTimeout .B),
    dueIf s.virtualOriginDue .virtualOrigin,
    dueIf s.holdoverEndDue .holdoverEnd,
    dueIf s.holdoverDeadlineDue .holdoverDeadline,
    dueIf s.scheduledStrobeDue .scheduledStrobe,
    dueIf s.fallbackCheckDue .fallbackCheck,
    dueIf s.freeStrobeDue .freeStrobe]

/-- Walk steps that have something to do (R11). -/
def State.walksDue (s : State) : List (Option Instr) := ctxNumbers.map fun n => dueIf (s.walking n) (.walkStep n)

/-- The hub's own event to be taken next, if one is due. Held in part reset or unpowered the hub has none (R191). -/
def State.dueEvent (s : State) : Option Instr :=
  if s.power = .running then (s.arrivalsDue ++ s.timersDue ++ s.walksDue).findSome? id else none

/-- One microsecond with nothing to do (R102): the counter advances and the messages issued down the links are
sent. Held in part reset or unpowered no time is counted. -/
def State.tick (s : State) : State :=
  if s.power = .running then
    { s with
      tb := { s.tb with counter := s.tb.counter + 1 },
      links := ⟨{ s.links.a with downstream := [] }, { s.links.b with downstream := [] }⟩ }
  else s

end Sys2Proof.Machine
end

