-- ==== Sys2Proof/Safety.lean ====
section
/-! DEFINITION. The terms in which claims about the hub are stated: when a request is carried out and answered, and
what a safe run keeps (the invariants of the blocks). A run is safe when every step goes on and keeps them. -/

namespace Sys2Proof.Machine

/-! ## Requests that are carried out -/

/-- The state in which a request is taken: its transaction has ended, and a reply sent whole has left the queue
(R171 step 1). -/
def State.served (r : Req) (k : RequestKind) (s : State) : State :=
  s.endTransaction r.port (Req.clocked r k) fun _ t => t

/-- A transaction that is not EARLY is in progress on the port (R172). -/
def State.inTransaction (p : Port) (s : State) : Bool :=
  match s.ports[p].txn with
  | none => false
  | some t => !t.early

/-- The port takes the request, carries it out, and has room for its reply (R172 to R175). -/
def Ready (r : Req) (k : RequestKind) (s : State) : Bool :=
  s.inTransaction r.port && (s.store.device = .running || k.inStarting)
    && decide ((s.served r k).ports[r.port].queue.length < Config.replyDepth)

/-- An immediate reply at the tail of the requester's queue (R174, R175). -/
def State.replied (r : Req) (k : RequestKind) (result : Result) (payload : Payload) (s : State) : State :=
  s.modifyPort r.port fun q => { q with queue := q.queue ++ [⟨Reply.immediate k r.tag result payload, 0#8⟩] }

/-- What a request with no effect on any block answers: the state after its transaction, and the reply. -/
def State.reported (r : Req) (k : RequestKind) (result : Result) (payload : Payload) (s : State) : State :=
  (s.served r k).replied r k result payload

/-- The hub as a part reset, a release or a loss of supply leaves it (R143, R184, R191): every block at its part-reset
values, the medium and the chip select pins as they were. -/
def State.afterReset (power : Power) (s : State) : State :=
  { pending := s.pending, power := power, tb := TimeBase.reset, links := ⟨Link.reset, Link.reset⟩,
    sel := Selector.reset, hist := History.reset, delta := DeltaEngine.reset,
    ports := s.ports.map fun q => ⟨q.csLow, none, [], ⟨true, false, false, false⟩, [], none⟩, cfg := ConfigUnit.reset,
    store := Store.reset, medium := s.medium, cond := Conditions.reset, arrivals := Arrivals.none }

/-- A level condition is in force, with SEL's two states as handed with a publication (R160, R161). -/
def State.inForce (s : State) (r : LevelReport) : Cond → Bool
  | .publishHeld => r.held
  | .headDisagree => r.disagree
  | .syncLost => s.tb.timing.map Timing.mode = some .direct && s.tb.fallback = .fallback
  | .syncUnlock => s.tb.timing.map Timing.mode = some .scaled && s.tb.lockLost
  | .storeBlank => s.store.loadOutcome = .blank
  | .storeCorrupt => s.store.loadOutcome = .corrupt
  | .factoryCorrupt x => s.store.factoryValidity.get x = .corrupt
  | .linkFault _ | .linkLost _ | .headSensor _ | .headForeign _ | .headSelfTestFail _ | .sourceSwitch | .syncEdgeReject
  | .scaleRange | .storeWriteFail | .configActivated | .ringOverrun | .leaseExpired | .frameError | .replyLost => false

/-! ## The end of a head command -/

/-- The last command result when the command in the slot, if there is one, ends so (R99). -/
def Link.resultAfter (l : Link) (result : Result) (detail : CommandDetail) : Option CommandResult :=
  match l.slot with
  | none => l.lastResult
  | some c => some ⟨c.kind, c.origin.port, result, detail⟩

/-- The COMPLETION that goes out when the command in the slot ends so: one to a host origin that is not forgotten, none
otherwise (R99, R100). -/
def Link.completionOf (l : Link) (x : Head) (result : Result) (detail : CommandDetail) : List Completion :=
  match l.slot with
  | none => []
  | some c =>
    match c.origin with
    | .internal => []
    | .host p tag => if c.forgotten then [] else [⟨p, Reply.completion c.kind.request tag result (detail.payload x)⟩]

/-- A link whose command has ended so: the slot is EMPTY, or, SYNCING and unconfirmed, holds a fresh internal IDENTIFY
(R88, R99). -/
def Link.afterCommand (l : Link) (result : Result) (detail : CommandDetail) (now : Micros) : Link :=
  if l.state = .syncing ∧ l.confirmed = false then
    { l with
      slot := some ⟨.identify, .internal, false, now⟩, lastResult := l.resultAfter result detail,
      downstream := l.downstream ++ [.command .identify] }
  else { l with slot := none, lastResult := l.resultAfter result detail }

/-! ## Invariants -/

/-- Queues within their depths (R1, R175): four replies for a port, four records and four contexts. -/
def State.QueuesBounded (s : State) : Prop :=
  (∀ p : Port, s.ports[p].queue.length ≤ Config.replyDepth)
    ∧ (∀ n : CtxNum, ∀ c, s.delta.contexts[n] = some c → c.queue.length ≤ Config.takeDepth)
    ∧ ∀ p : Port, s.delta.owned p ≤ Config.contextsPerPort

/-- The lease has at most one holder, who does not wait; each waiter waits once, and none while it is FREE (R122). -/
def ConfigUnit.LeaseConsistent (c : ConfigUnit) : Prop :=
  (c.waiters.map Waiter.port).Nodup
    ∧ match c.lease with
      | none => c.waiters = []
      | some l => l.holder ∉ c.waiters.map Waiter.port

/-- Every condition set holds each member once, in ascending code order (R157, R185). -/
def State.SetsOrdered (s : State) : Prop :=
  ∀ p : Port, s.cond.sets[p].Pairwise fun c d => c.index < d.index

/-- A port's history state lies within the ring, and its watermark indication is as R31 gives (R28). -/
def Reader.Within (r : Reader) (h : History) : Prop :=
  (h.next - r.cursor).toNat ≤ h.records.length ∧ r.watermark.toNat ≤ Config.historyCapacity
    ∧ r.reached = r.reachedAt h.next

/-- The ring holds consecutive numbers, the last one before next, and at most 1024 of them (R25). -/
def History.Consecutive (h : History) : Prop :=
  h.records.length ≤ Config.historyCapacity
    ∧ ∀ k : Fin h.records.length, (h.records[k]).number = h.next - BitVec.ofNat 48 (h.records.length - k)

/-- The ring and its readers are in form, and the publications on their way to HIST follow on (R25, R26, R28). -/
def State.RingConsistent (s : State) : Prop :=
  s.hist.Consecutive ∧ (∀ p : Port, (s.hist.readers[p]).Within s.hist)
    ∧ (∀ k : Fin s.arrivals.appends.length, (s.arrivals.appends[k]).number = s.hist.next + BitVec.ofNat 48 k)
    ∧ s.sel.counter = s.hist.next + BitVec.ofNat 48 s.arrivals.appends.length

/-- A link's counts are within their ranges and rest where R86 says, an unconfirmed SYNCING link has a command in its
slot (R88), and a link that has both halves of its bring-up is not SYNCING (R87). -/
def Link.Consistent (l : Link) : Prop :=
  l.tally < Config.tallyLimit ∧ l.goodCount ≤ Config.bringUpFrames ∧ l.silence < Config.silenceLimit
    ∧ (l.state ≠ .up → l.tally = 0) ∧ (l.state ≠ .syncing → l.goodCount = 0 ∧ l.confirmed = false)
    ∧ (l.state = .syncing → l.confirmed = false → l.slot ≠ none)
    ∧ ¬ (l.state = .syncing ∧ l.goodCount = Config.bringUpFrames ∧ l.confirmed = true)

/-- An image whose every field a STAGE request could have set (R131 to R134); R136 alone may fail. -/
def Image.stageable (i : Image) : Bool :=
  i.user.a.inRange && i.user.b.inRange && i.gyroThreshold.toNat ≤ thresholdLimit
    && i.accelThreshold.toNat ≤ thresholdLimit

/-- The active image is one of R119 and the staged image one that staging can make. -/
def ConfigUnit.ImagesInRange (c : ConfigUnit) : Prop :=
  c.active.inRange = true ∧ ∀ l, c.lease = some l → l.staged.stageable = true

/-- The image of a user slot, if the slot is VALID (R141). -/
def Medium.image (m : Medium) (t : Slot) : Option Image := slotImage m.slots[t] m.writes[t]

/-- The generation of a VALID slot; 0 for any other (R143). -/
def Medium.validGeneration (m : Medium) (t : Slot) : Nat := (slotGenerationOf m.slots[t] m.writes[t]).toNat

/-- The largest generation of a VALID slot; 0 when there is none. -/
def Medium.newest (m : Medium) : Nat := max (m.validGeneration 0) (m.validGeneration 1)

/-- A commit in flight: its target is not current and cannot be loaded, and it writes an active image under the
generation after the current slot's (R147, R148, R150). -/
def State.CommitConsistent (s : State) (c : Commit) : Prop :=
  s.store.busy = true ∧ s.store.current ≠ some c.report.target ∧ s.medium.slots[c.report.target].check = none
    ∧ s.medium.writes[c.report.target] ≠ 0#32 ∧ c.snapshot.inRange = true
    ∧ c.report.generation.toNat = s.store.currentGeneration.toNat + 1
    ∧ (s.store.state = .verifying → s.store.readBack = some s.medium.slots[c.report.target])

/-- STORE agrees with the medium: the current slot is the newest VALID slot, and without a current slot none is VALID;
a commit is in flight exactly while the store is busy (R143, R145 to R150). -/
def State.StoreConsistent (s : State) : Prop :=
  (s.store.device = .running →
      match s.store.current with
      | none => s.medium.newest = 0
      | some c => s.medium.validGeneration c = s.medium.newest ∧ 0 < s.medium.newest
          ∧ s.store.currentGeneration.toNat = s.medium.newest)
    ∧ (s.store.device = .starting → s.store.state = .loading ∧ s.store.commit = none)
    ∧ (s.store.busy = false → s.store.commit = none)
    ∧ ∀ c, s.store.commit = some c → s.CommitConsistent c

/-- What every step keeps. -/
structure State.Inv (s : State) : Prop where
  queues : s.QueuesBounded
  lease : s.cfg.LeaseConsistent
  images : s.cfg.ImagesInRange
  sets : s.SetsOrdered
  ring : s.RingConsistent
  linkA : s.links.a.Consistent
  linkB : s.links.b.Consistent
  store : s.StoreConsistent

/-! ## The count of R21 -/

/-- Publications counted by a record: integrated ones and skipped ones. -/
def DeltaRecord.counted (r : DeltaRecord) : Nat := r.count.toNat + r.skipped.toNat

/-- Publications counted by what a context still holds: its queued records and its pending accumulation (R21). -/
def Context.counted (c : Context) : Nat :=
  (c.queue.map DeltaRecord.counted).sum + c.acc.count.toNat + c.acc.skipped.toNat

/-- The accumulation is below the count limit (R10). -/
def Context.belowLimit (c : Context) : Bool := c.acc.count.toNat + c.acc.skipped.toNat < Config.countLimit

end Sys2Proof.Machine
end

