-- ==== Sys2Proof/Certificates/Slice0/Obligations.lean ====
section
/-! DEFINITION. The statements for the provers, family by family. -/

open Sys2Proof Sys2Proof.Machine

/-! ## The machine -/

/-- The command at the front of the queue is the one a step carries out, on the state with the queue's rest. -/
def Obligations.StepRunsTheFrontCommand : Prop :=
  ∀ (c : Instr) (rest : List Instr) (s : State),
    step { s with pending := c :: rest } = exec c { s with pending := rest }

/-- With no command waiting, a step takes the hub's own due event, and with none due one microsecond passes, in which
the messages issued down the links are sent. The model's choice: log 1, log 2, log 11. -/
def Obligations.IdleStepTakesADueEventOrCountsAMicrosecond : Prop :=
  ∀ s : State, s.pending = [] →
    (∀ c, s.dueEvent = some c → step s = exec c s)
      ∧ (s.dueEvent = none → s.power = .running →
          step s =
            .next
              { s with
                tb := { s.tb with counter := s.tb.counter + 1 },
                links := ⟨{ s.links.a with downstream := [] }, { s.links.b with downstream := [] }⟩ })
      ∧ (s.power ≠ .running → step s = .next s)

/-- Every command of the table completes in every state, and none touches the queue of the commands that follow it.
That a command whose event cannot be taken changes nothing is the model's choice, log 3. -/
def Obligations.EveryCommandCompletesAndKeepsTheQueue : Prop :=
  ∀ (c : Instr) (s : State), ∃ t, exec c s = .next t ∧ t.pending = s.pending

/-! ## Resets and the supply -/

/-- What part reset leaves in every block: TB (R103), the links (R86), SEL (R42), HIST (R28, R40), DELTA (R23), the
ports (R184), CFG (R139), STORE (R143) and COND (R168). -/
def Obligations.ResetHoldsTheSpecifiedValues : Prop :=
  (State.reset.tb.counter = 0#48 ∧ State.reset.tb.strobeNumber = 0#8 ∧ State.reset.tb.strobing = false
      ∧ State.reset.tb.refTime = none ∧ State.reset.tb.timing = none ∧ State.reset.tb.fallback = .edge
      ∧ State.reset.tb.rejectCount = 0#16 ∧ State.reset.tb.lock = .unlocked ∧ State.reset.tb.run = ⟨none, none, 0⟩
      ∧ State.reset.tb.lockRef = none ∧ State.reset.tb.schedule = none ∧ State.reset.tb.lockLost = false)
    ∧ (∀ x : Head,
        State.reset.links.get x =
          { state := .absent, tally := 0, goodCount := 0, confirmed := false, silence := 0, lastStatus := none,
            slot := none, lastResult := none, accepted := 0#32, crcErrors := 0#32, lates := 0#32, mismatches := 0#32,
            missed := 0#32, downstream := [] })
    ∧ State.reset.sel =
        { window := .none, current := none, previous := none, expected := ⟨false, false⟩, frames := ⟨none, none⟩,
          counter := 0#48, previousTime := none, previousEpoch := none, source := none, lastValues := none,
          heldCount := 0#16, counted := none, holdOff := 0, agreement := .agree, agreementCount := 0 }
    ∧ (State.reset.hist.records = [] ∧ State.reset.hist.next = 0#48
      ∧ ∀ p : Port, State.reset.hist.readers[p] = ⟨0#48, 0#16, 0#32, 0#16, false⟩)
    ∧ ((∀ n : CtxNum, State.reset.delta.contexts[n] = none) ∧ State.reset.delta.lastArrival = none)
    ∧ (∀ p : Port,
        State.reset.ports[p].txn = none ∧ State.reset.ports[p].queue = []
          ∧ State.reset.ports[p].mask = ⟨true, false, false, false⟩ ∧ State.reset.attnLow p = false)
    ∧ (State.reset.cfg.epoch = 0#16 ∧ State.reset.cfg.lease = none ∧ State.reset.cfg.waiters = [])
    ∧ (State.reset.store.device = .starting ∧ State.reset.store.state = .loading
      ∧ State.reset.store.factoryValidity = ⟨.unknown, .unknown⟩
      ∧ (∀ t : Slot, State.reset.store.slotValidity[t] = .unknown ∧ State.reset.store.slotGeneration[t] = 0#32)
      ∧ State.reset.store.current = none ∧ State.reset.store.loadOutcome = .unknown
      ∧ State.reset.store.commit = none ∧ State.reset.store.last = none)
    ∧ (∀ p : Port, State.reset.cond.sets[p] = []) ∧ ∀ c : Cond, State.reset.cond.counts[c.index] = 0#16

/-- A low level on RESET of at least 10 µs, or power-on, holds the hub in part reset with every block at its part-reset
values and the medium kept; a shorter level is ignored; the release starts the counter from 0 in STARTING; a loss of
supply leaves the medium alone (R143, R144, R153, R191).
The model's choices in it: a release while not held changes nothing, log 3; the active image that stands until the
load, log 8; the start of a phase and the fields read back while no commit is in flight, log 10; the kept factory
copies, log 38; no transaction that has ended, log 12; the kept chip select pins, and every volatile item at its part-reset value without supply, log 9; the causes of a part reset as operands, log 27; and
the empty record of data out, log 36. -/
def Obligations.PartResetHoldsTheHubUntilItsRelease : Prop :=
  ∀ s : State,
    exec (.partReset .powerOn) s = .next (s.afterReset .heldInReset)
      ∧ (∀ m, 10 ≤ m → s.power ≠ .unpowered →
          exec (.partReset (.resetLow m)) s = .next (s.afterReset .heldInReset))
      ∧ (∀ m, m < 10 ∨ s.power = .unpowered → exec (.partReset (.resetLow m)) s = .next s)
      ∧ (s.power = .heldInReset → exec .resetRelease s = .next (s.afterReset .running))
      ∧ (s.power ≠ .heldInReset → exec .resetRelease s = .next s)
      ∧ exec .powerLoss s = .next (s.afterReset .unpowered)

/-- The start-up load chooses by the table of R145, and its end places the chosen image with epoch 0, sets STORE as
found, enters RUNNING, raises the load's level conditions and starts strobing (R66, R67, R105, R145, R146).
The time the load takes is left out of the command, log 4. -/
def Obligations.StartUpLoadPlacesTheChosenImage : Prop :=
  (∀ m : Medium,
      (∀ i j, m.image 0 = some i → m.image 1 = some j →
          m.choose = if m.validGeneration 0 < m.validGeneration 1 then ⟨j, some 1, .loaded⟩ else ⟨i, some 0, .loaded⟩)
        ∧ (∀ i, m.image 0 = some i → m.image 1 = none → m.choose = ⟨i, some 0, .loaded⟩)
        ∧ (∀ j, m.image 0 = none → m.image 1 = some j → m.choose = ⟨j, some 1, .loaded⟩)
        ∧ (m.writes[0] = 0#32 → m.writes[1] = 0#32 → m.choose = ⟨Image.default, none, .blank⟩)
        ∧ (m.image 0 = none → m.image 1 = none → ¬ (m.writes[0] = 0#32 ∧ m.writes[1] = 0#32) →
          m.choose = ⟨Image.default, none, .corrupt⟩))
    ∧ ∀ s : State, s.power = .running → s.store.device = .starting →
        ∃ t, exec .startUpLoad s = .next t
          ∧ t.cfg = { s.cfg with active := s.medium.choose.image, epoch := 0#16 }
          ∧ t.store =
              { s.store with
                device := .running, state := .idle, factory := s.medium.factory,
                factoryValidity := ⟨factoryValid s.medium.factory.a, factoryValid s.medium.factory.b⟩,
                slotValidity :=
                  #v[classifySlot s.medium.slots[0] s.medium.writes[0],
                    classifySlot s.medium.slots[1] s.medium.writes[1]],
                slotGeneration :=
                  #v[slotGenerationOf s.medium.slots[0] s.medium.writes[0],
                    slotGenerationOf s.medium.slots[1] s.medium.writes[1]],
                current := s.medium.choose.current, loadOutcome := s.medium.choose.outcome }
          ∧ (∀ (p : Port) (c : Cond),
              c ∈ t.cond.sets[p] ↔ c ∈ s.cond.sets[p]
                ∨ (c = .storeBlank ∧ s.medium.choose.outcome = .blank)
                ∨ (c = .storeCorrupt ∧ s.medium.choose.outcome = .corrupt)
                ∨ ∃ x : Head, c = .factoryCorrupt x ∧ factoryValid (s.medium.factory.get x) = .corrupt)
          ∧ t.tb.strobing = true ∧ t.tb.timing = some s.medium.choose.image.timing ∧ t.tb.refTime = some s.tb.counter
          ∧ (s.medium.choose.image.timing.mode = .direct →
              t.tb.strobeNumber = s.tb.strobeNumber ∧ t.arrivals = s.arrivals)
          ∧ (s.medium.choose.image.timing.mode ≠ .direct →
              t.tb.strobeNumber = s.tb.strobeNumber + 1
                ∧ t.arrivals.strobesToSel =
                    s.arrivals.strobesToSel
                      ++ [⟨s.tb.strobeNumber, s.tb.counter, s.medium.choose.image.timing.mode = .scaled, none⟩]
                ∧ ∀ x : Head,
                    t.arrivals.strobesToLink.get x = s.arrivals.strobesToLink.get x ++ [s.tb.strobeNumber])
          ∧ t.power = s.power ∧ t.links = s.links ∧ t.sel = s.sel ∧ t.hist = s.hist ∧ t.delta = s.delta
          ∧ t.ports = s.ports ∧ t.medium = s.medium

/-! ## Transactions and replies -/

/-- At the fall of chip select the head of the queue, or else the filler, is formed with its sent count, the status
summary and the check, and its sent count is raised (R170).
The transaction is EARLY when less than 2 µs have passed since the port's previous one ended, and the first one is not (R172).
That a fall on a pin already low changes nothing is the model's choice, log 3, and that the 2 µs are told by the counter
and, where it has counted exactly 2, by the operand, log 12. -/
def Obligations.ChipSelectFallFormsTheHeadReplyOrAFiller : Prop :=
  ∀ (p : Port) (sooner early : Bool) (s : State),
    (early = true ↔
        ∃ e, s.ports[p].lastEnd = some e ∧ (s.since e < 2 ∨ s.since e = 2 ∧ sooner = true)) →
    (s.power = .running → s.ports[p].csLow = false → s.ports[p].queue = [] →
        exec (.chipSelectFall p sooner) s =
          .next (s.modifyPort p fun q =>
            { q with
              csLow := true,
              txn := some
                ⟨false, sealed ([0x00#8, 0x00#8, 0x10#8, 1#8] ++ field 2 (s.statusSummary p) ++ [0#8]), early⟩ }))
      ∧ (∀ h rest, s.power = .running → s.ports[p].csLow = false → s.ports[p].queue = h :: rest →
          exec (.chipSelectFall p sooner) s =
            .next (s.modifyPort p fun q =>
              { q with
                csLow := true,
                queue := { h with sent := satInc h.sent } :: rest,
                txn := some
                  ⟨true,
                    sealed ([h.reply.echo, h.reply.tag, h.reply.result.code, satInc h.sent]
                      ++ field 2 (s.statusSummary p) ++ beBytes 1 h.reply.payload.bytes.length
                      ++ h.reply.payload.bytes),
                    early⟩ }))
      ∧ (s.ports[p].csLow = true → exec (.chipSelectFall p sooner) s = .next s)
      ∧ (s.power ≠ .running → s.ports[p].csLow = false →
          exec (.chipSelectFall p sooner) s = .next (s.modifyPort p fun q => { q with csLow := true }))

/-- A transaction of a NOP, EARLY or not, takes no request, raises nothing and appends nothing; data out carries the reply as
far as it was clocked, and 00h past its end, and the counter value is kept as the end of the transaction; a queued reply
that was sent whole leaves the queue, and any other stays (R169, R171, R182). A port that waits for chip select to rise takes nothing (R184). Bytes of MALFORMED_REQUEST without one
whole byte, or with 00h first, are a NOP: the model's choice, log 25. That the bytes sent stand in State is its record,
log 36. -/
def Obligations.NopTakesNoRequestAndRemovesAReplySentWhole : Prop :=
  ∀ (p : Port) (n : Nat) (s : State),
    (∀ t, s.ports[p].txn = some t → t.queued = true → t.bytes.length ≤ n →
        exec (.nop p n) s =
          .next (s.modifyPort p fun q =>
            { q with
              csLow := false, txn := none, queue := q.queue.tail,
              sent := t.bytes ++ List.replicate (n - t.bytes.length) 0#8, lastEnd := some s.tb.counter }))
      ∧ (∀ t, s.ports[p].txn = some t → t.queued = false → t.bytes.length ≤ n →
          exec (.nop p n) s =
            .next (s.modifyPort p fun q =>
              { q with
                csLow := false, txn := none, sent := t.bytes ++ List.replicate (n - t.bytes.length) 0#8,
                lastEnd := some s.tb.counter }))
      ∧ (∀ t, s.ports[p].txn = some t → n < t.bytes.length →
          exec (.nop p n) s =
            .next (s.modifyPort p fun q =>
              { q with csLow := false, txn := none, sent := t.bytes.take n, lastEnd := some s.tb.counter }))
      ∧ (s.ports[p].txn = none → exec (.nop p n) s = .next (s.modifyPort p fun q => { q with csLow := false }))
      ∧ ∀ bytes : List Byte, bytes = [] ∨ bytes.head? = some 0#8 →
          exec (.malformedRequest p bytes) s = exec (.nop p bytes.length) s

/-- The bytes of a transaction are examined in the order of R172, and each case that refuses them is answered with its
reply: FRAME_ERROR with its condition, UNKNOWN_KIND or BAD_LENGTH without one. In an EARLY transaction any bytes but those
of a NOP are a FRAME_ERROR with reason EARLY, whatever else is wrong with them; the fall of chip select tells which are EARLY,
log 12. That good bytes are judged as the request they are is the model's choice, log 25. -/
def Obligations.MalformedRequestsAreAnsweredByTheFirstCaseThatFits : Prop :=
  (∀ (p : Port) (bytes : List Byte), bytes ≠ [] → byteAt bytes 0 ≠ 0#8 →
      (bytes.length < 3 → decodeRequest p bytes = .frameError .shortHeader)
        ∧ (3 ≤ bytes.length → 120 < (byteAt bytes 2).toNat → decodeRequest p bytes = .frameError .lengthRange)
        ∧ (3 ≤ bytes.length → (byteAt bytes 2).toNat ≤ 120 → bytes.length < 3 + (byteAt bytes 2).toNat + 2 →
          decodeRequest p bytes = .frameError .shortPayload)
        ∧ ((byteAt bytes 2).toNat ≤ 120 → 3 + (byteAt bytes 2).toNat + 2 ≤ bytes.length →
          (checkMatches (bytes.take (3 + (byteAt bytes 2).toNat + 2)) = false →
              decodeRequest p bytes = .frameError .check)
            ∧ (checkMatches (bytes.take (3 + (byteAt bytes 2).toNat + 2)) = true →
              (RequestKind.ofCode (byteAt bytes 0) = none → decodeRequest p bytes = .unknownKind)
                ∧ ∀ k, RequestKind.ofCode (byteAt bytes 0) = some k → (byteAt bytes 2).toNat ≠ k.length →
                    decodeRequest p bytes = .badLength)))
    ∧ (∀ (p : Port) (bytes : List Byte) (s : State) (t : Transaction), s.ports[p].txn = some t → t.early = true →
        bytes ≠ [] → byteAt bytes 0 ≠ 0#8 →
          exec (.malformedRequest p bytes) s =
            .next (((s.endTransaction p bytes.length fun _ u => u).raisePort .frameError p).appendReply p
              ⟨byteAt bytes 0, byteAt bytes 1, .frameError,
                .frameError .early (BitVec.ofNat 8 (min bytes.length 255))⟩))
    ∧ ∀ (p : Port) (bytes : List Byte) (s : State) (t : Transaction), s.ports[p].txn = some t → t.early = false →
        (∀ reason, decodeRequest p bytes = .frameError reason →
            exec (.malformedRequest p bytes) s =
              .next (((s.endTransaction p bytes.length fun _ u => u).raisePort .frameError p).appendReply p
                ⟨byteAt bytes 0, byteAt bytes 1, .frameError,
                  .frameError reason (BitVec.ofNat 8 (min bytes.length 255))⟩))
          ∧ (decodeRequest p bytes = .unknownKind →
              exec (.malformedRequest p bytes) s =
                .next ((s.endTransaction p bytes.length fun _ u => u).appendReply p
                  ⟨byteAt bytes 0, byteAt bytes 1, .unknownKind, .none⟩))
          ∧ (decodeRequest p bytes = .badLength →
              exec (.malformedRequest p bytes) s =
                .next ((s.endTransaction p bytes.length fun _ u => u).appendReply p
                  ⟨byteAt bytes 0, byteAt bytes 1, .badLength, .none⟩))

/-- The message a host sends for any request command, with any padding after its check, is read back as that very
command, every field at every value (R172, R185, R187, section 11.2). -/
def Obligations.EveryRequestMessageDecodesToItsCommand : Prop :=
  ∀ (i : Instr) (r : Req) (k : RequestKind) (payload message : List Byte),
    requestOf i = some (r, k, payload) → requestMessage i = some message → decodeRequest r.port message = .request i

/-- The bytes of a SAMPLE or RESPONSE are read back as that frame, every field at every value (R81, R82, section 11.8). -/
def Obligations.EveryUpstreamMessageDecodesToItsFrame : Prop :=
  (∀ (x : Head) (f : SampleFrame),
      ∃ m, upstreamMessage (.sample x f) = some m ∧ m.length = 25 ∧ decodeUpstream x m = some (.sample x f))
    ∧ (∀ (x : Head) (serial : BitVec 32) (model : BitVec 16),
        ∃ m, upstreamMessage (.response x (.identify serial model)) = some m ∧ m.length = 10
          ∧ decodeUpstream x m = some (.response x (.identify serial model)))
    ∧ ∀ (x : Head) (outcome failSet : Byte),
        ∃ m, upstreamMessage (.response x (.selfTest outcome failSet)) = some m ∧ m.length = 6
          ∧ decodeUpstream x m = some (.response x (.selfTest outcome failSet))

/-- An image is 208 bytes, which are read back as the same image, every item at every value (section 11.7). -/
def Obligations.EveryImageIsReadBackFromItsBytes : Prop :=
  ∀ i : Image, i.bytes.length = 208 ∧ Image.ofBytes i.bytes = some i

/-- A request of a transaction that began less than 2 µs after the one before is a FRAME_ERROR with reason EARLY, and
during STARTING every request kind but IDENTIFY and HEALTH_READ is answered NOT_READY; no block learns of either
(R172, R173).
The fall of chip select tells which transactions are EARLY, by the counter, log 12. -/
def Obligations.EarlyAndStartingRequestsAreNotCarriedOut : Prop :=
  ∀ (i : Instr) (r : Req) (k : RequestKind) (payload : List Byte) (s : State), requestOf i = some (r, k, payload) →
    (∀ t, s.ports[r.port].txn = some t → t.early = true →
        exec i s =
          .next (((s.served r k).raisePort .frameError r.port).appendReply r.port
            ⟨k.code, r.tag, .frameError,
              .frameError .early (BitVec.ofNat 8 (min (3 + k.length + 2 + r.padding) 255))⟩))
      ∧ (k ≠ .identify → k ≠ .healthRead → s.store.device = .starting → s.inTransaction r.port = true →
        (s.served r k).ports[r.port].queue.length < 4 → exec i s = .next (s.reported r k .notReady .none))

/-- An immediate reply that finds four replies waiting is discarded with REPLY_LOST raised on the port, and the request that
produced it has been carried out all the same: the hub is as the request leaves it on a port with an empty queue, but for the
four replies and the condition; PORT_RESET alone empties the queue first (R174, R175, R183). -/
def Obligations.AReplyThatFindsAFullQueueIsDiscarded : Prop :=
  ∀ (i : Instr) (r : Req) (k : RequestKind) (payload : List Byte) (s : State),
    requestOf i = some (r, k, payload) → k ≠ .portReset → s.inTransaction r.port = true →
      (s.served r k).ports[r.port].queue.length = 4 →
        ∃ t u,
          exec i s = .next t ∧ exec i (s.modifyPort r.port fun q => { q with queue := [] }) = .next u
            ∧ t =
              (u.modifyPort r.port fun q =>
                { q with queue := (s.served r k).ports[r.port].queue }).raisePort .replyLost r.port
            ∧ t.ports[r.port].queue = (s.served r k).ports[r.port].queue ∧ Cond.replyLost ∈ t.cond.sets[r.port]

/-- A COMPLETION that arrives is appended behind the waiting replies, or dropped with REPLY_LOST when four wait
(R176). -/
def Obligations.ACompletionIsAppendedOrDropped : Prop :=
  ∀ (index : Nat) (c : Completion) (s : State), s.power = .running → s.arrivals.completions[index]? = some c →
    (s.ports[c.port].queue.length < 4 →
        exec (.completionArrival index) s =
          .next (({ s with
              arrivals :=
                { s.arrivals with completions := s.arrivals.completions.eraseIdx index } } : State).modifyPort
            c.port fun q => { q with queue := q.queue ++ [⟨c.reply, 0#8⟩] }))
      ∧ (s.ports[c.port].queue.length = 4 →
        exec (.completionArrival index) s =
          .next (({ s with
              arrivals :=
                { s.arrivals with completions := s.arrivals.completions.eraseIdx index } } : State).raisePort
            .replyLost c.port))

/-- IDENTIFY, in STARTING as in RUNNING, returns the vendor code 0C3Dh, the part code 0402h, the silicon revision and the
hub serial; HEALTH_READ, TIME_READ and STORE_STATUS report the state; none changes any (R117, R154, R166, R167, R181).
A snapshot taken in STARTING reports each link at its part-reset values, and any other one reports it as it stands (R167). That
the counters which R101 raises in STARTING show from the end of the load on is the model's reading, log 35, and the silicon
revision and the hub serial are free values, log 5. -/
def Obligations.ReportRequestsChangeNothing : Prop :=
  ∀ (r : Req) (s : State),
    (Ready r .identify s = true →
        exec (.identify r) s = .next (s.reported r .identify .ok .identify)
          ∧ Payload.identify.bytes =
              [0x0C#8, 0x3D#8, 0x04#8, 0x02#8, Config.siliconRevision] ++ field 8 Config.hubSerial)
      ∧ (Ready r .healthRead s = true →
        ∀ links : Pair LinkReport,
          (s.store.device = .starting →
              ∀ x : Head,
                links.get x =
                  { state := .absent, tally := 0, goodCount := 0, silence := 0, lastStatus := none, accepted := 0#32,
                    crcErrors := 0#32, lates := 0#32, mismatches := 0#32, missed := 0#32, lastResult := none }) →
          (s.store.device = .running →
            ∀ x : Head,
              links.get x =
                { state := (s.links.get x).state, tally := (s.links.get x).tally, goodCount := (s.links.get x).goodCount,
                  silence := (s.links.get x).silence, lastStatus := (s.links.get x).lastStatus,
                  accepted := (s.links.get x).accepted, crcErrors := (s.links.get x).crcErrors,
                  lates := (s.links.get x).lates, mismatches := (s.links.get x).mismatches,
                  missed := (s.links.get x).missed, lastResult := (s.links.get x).lastResult }) →
            ∀ sync : Option (SyncMode × SyncState),
              (s.tb.timing = none → sync = none) →
              (∀ g, s.tb.timing = some g →
                  (g.mode = .free → sync = some (.free, .none))
                    ∧ (g.mode = .direct →
                      sync = some (.direct, if s.tb.fallback = .edge then .edge else .fallback))
                    ∧ (g.mode = .scaled →
                      sync =
                        some (.scaled,
                          if s.tb.lock = .unlocked then .unlocked else if s.tb.lock = .acquiring then .acquiring
                          else if s.tb.lock = .locked then .locked else .holdover))) →
                ∀ contexts : Vector (Option (CtxState × Port)) 8,
                  (∀ n : CtxNum, contexts[n] = s.delta.contexts[n].map fun c => (c.state, c.owner)) →
                    exec (.healthRead r) s =
                      .next (s.reported r .healthRead .ok
                        (.health
                          { device := s.store.device, time := s.tb.counter, links := links, source := s.sel.source,
                            heldCount := s.sel.heldCount, agreement := s.sel.agreement,
                            agreementCount := s.sel.agreementCount, sync := sync,
                            i :=
                              if s.tb.lock = .locked ∨ s.tb.lock = .holdover then (s.tb.lockRef.map LockRef.i).getD 0#48
                              else 0#48,
                            rejects := s.tb.rejectCount, store := s.store.state, current := s.store.current,
                            slotValidity := s.store.slotValidity, loadOutcome := s.store.loadOutcome,
                            factoryValidity := s.store.factoryValidity, holder := s.cfg.lease.map Lease.holder,
                            waiters := s.cfg.waiters.map Waiter.port, contexts := contexts,
                            counts := s.cond.counts })))
      ∧ (Ready r .timeRead s = true →
        exec (.timeRead r) s =
          .next (s.reported r .timeRead .ok
            (.time
              { time := s.tb.counter, newest := s.hist.records.getLast?.map Publication.number, timing := s.tb.timing,
                sync := s.tb.syncState,
                i := if s.tb.lock = .locked ∨ s.tb.lock = .holdover then (s.tb.lockRef.map LockRef.i).getD 0#48 else 0#48,
                rejects := s.tb.rejectCount })))
      ∧ (Ready r .storeStatus s = true →
        exec (.storeStatus r) s =
          .next (s.reported r .storeStatus .ok
            (.storeStatus
              { state := s.store.state, current := s.store.current, loadOutcome := s.store.loadOutcome,
                validity := s.store.slotValidity, generation := s.store.slotGeneration, writes := s.medium.writes,
                inFlight := s.store.commit.map Commit.report, last := s.store.last, epoch := s.cfg.epoch })))

/-- SET_ATTENTION replaces the mask and reports the truth of the four sources, or refuses a mask that names any other
source; its own reply makes REPLY_QUEUE true in the same event, and an empty mask keeps ATTN high (R180). The truth
reported is that before the reply is queued: the model's reading, log 24. -/
def Obligations.SetAttentionReplacesTheMask : Prop :=
  ∀ (r : Req) (mask : Byte) (s : State), Ready r .setAttention s = true →
    (15 < mask.toNat → exec (.setAttention r mask) s = .next (s.reported r .setAttention .outOfRange .none))
      ∧ (mask.toNat ≤ 15 →
        ∃ t,
          exec (.setAttention r mask) s = .next t
            ∧ t =
              ((s.served r .setAttention).modifyPort r.port fun q =>
                  { q with mask := ⟨mask.getLsbD 0, mask.getLsbD 1, mask.getLsbD 2, mask.getLsbD 3⟩ }).replied
                r .setAttention .ok
                (.attention ⟨mask.getLsbD 0, mask.getLsbD 1, mask.getLsbD 2, mask.getLsbD 3⟩
                  { replyQueue := (s.served r .setAttention).ports[r.port].queue ≠ [],
                    watermark := s.hist.readers[r.port].reached, takeQueue := s.takeQueueNonEmpty r.port,
                    condition := s.cond.sets[r.port] ≠ [] })
            ∧ (mask.getLsbD 0 = true → s.power = .running → t.attnLow r.port = true)
            ∧ (mask = 0#8 → t.attnLow r.port = false))

/-- PORT_RESET empties the port's queue but for its own reply, its condition set and its history state, frees its
contexts, ends its part in the lease, forgets its commit and head commands, and leaves all else (R183, with R24, R41,
R100, R129, R151, R168).
That a COMPLETION in flight is dropped, and what the counts count, are the model's readings, log 13 and log 24. -/
def Obligations.PortResetClearsThePortAlone : Prop :=
  ∀ (r : Req) (s : State), s.inTransaction r.port = true → s.store.device = .running →
    ∃ t outcome,
      exec (.portReset r) s = .next t
        ∧ t.ports[r.port] =
            { csLow := false, txn := none, mask := ⟨true, false, false, false⟩,
              sent := (s.served r .portReset).ports[r.port].sent, lastEnd := some s.tb.counter,
              queue :=
                [⟨Reply.immediate .portReset r.tag .ok
                    (.portReset (s.served r .portReset).ports[r.port].queue.length (s.delta.owned r.port) outcome
                      (if s.store.commitOf r.port then 1 else 0)
                      ((if s.links.a.commandOf r.port then 1 else 0) + (if s.links.b.commandOf r.port then 1 else 0))),
                  0#8⟩] }
        ∧ (∀ q : Port, q ≠ r.port →
            t.ports[q] = s.ports[q] ∧ t.cond.sets[q] = s.cond.sets[q] ∧ t.hist.readers[q] = s.hist.readers[q])
        ∧ t.cond.sets[r.port] = [] ∧ t.cond.counts = s.cond.counts
        ∧ t.hist.readers[r.port] = ⟨s.hist.next, 0#16, 0#32, 0#16, false⟩
        ∧ t.hist.records = s.hist.records ∧ t.hist.next = s.hist.next
        ∧ (∀ n : CtxNum, t.delta.contexts[n] = if ownedBy r.port s.delta.contexts[n] then none else s.delta.contexts[n])
        ∧ t.delta.lastArrival = s.delta.lastArrival
        ∧ t.cfg.active = s.cfg.active ∧ t.cfg.epoch = s.cfg.epoch
        ∧ (s.cfg.holds r.port = true → s.cfg.waiters = [] →
            outcome = .released ∧ t.cfg.lease = none ∧ t.cfg.waiters = []
              ∧ t.arrivals.completions = s.arrivals.completions.filter fun c => c.port ≠ r.port)
        ∧ (∀ w rest, s.cfg.holds r.port = true → s.cfg.waiters = w :: rest →
            outcome = .released ∧ t.cfg.lease = some ⟨w.port, s.expiryAfter w.period, s.cfg.active⟩
              ∧ t.cfg.waiters = rest
              ∧ t.arrivals.completions =
                (s.arrivals.completions.filter fun c => c.port ≠ r.port)
                  ++ (if w.port = r.port then []
                    else
                      [⟨w.port, Reply.completion .leaseAcquire w.tag .granted (.leasePeriod w.period s.cfg.epoch)⟩]))
        ∧ (s.cfg.holds r.port = false →
            t.cfg.lease = s.cfg.lease ∧ t.cfg.waiters = s.cfg.waiters.filter (fun w => w.port ≠ r.port)
              ∧ outcome = (if r.port ∈ s.cfg.waiters.map Waiter.port then .cancelled else .none)
              ∧ t.arrivals.completions = s.arrivals.completions.filter fun c => c.port ≠ r.port)
        ∧ t.links = ⟨s.links.a.forget r.port, s.links.b.forget r.port⟩ ∧ t.store = s.store.forget r.port
        ∧ t.tb = s.tb ∧ t.sel = s.sel ∧ t.medium = s.medium ∧ t.power = s.power
        ∧ { t.arrivals with completions := [] } = { s.arrivals with completions := [] }

/-- Each item of the status summary stands at its bit, and the four others are 0 (R178, section 11.2). -/
def Obligations.StatusSummaryShowsEachItemAtItsBit : Prop :=
  ∀ (s : State) (p : Port),
    (s.statusSummary p).getLsbD 15 = (s.cond.sets[p] ≠ [] : Bool)
      ∧ (s.statusSummary p).getLsbD 14 = (s.cfg.lease.map Lease.holder = some p : Bool)
      ∧ (s.statusSummary p).getLsbD 13
          = ((s.cfg.lease.map Lease.holder).isSome && (s.cfg.lease.map Lease.holder ≠ some p : Bool))
      ∧ (s.statusSummary p).getLsbD 12 = (p ∈ s.cfg.waiters.map Waiter.port : Bool)
      ∧ (s.statusSummary p).getLsbD 11 = s.hist.readers[p].reached
      ∧ (s.statusSummary p).getLsbD 10 = s.takeQueueNonEmpty p
      ∧ (s.statusSummary p).getLsbD 9 = (s.store.device = .running : Bool)
      ∧ (s.statusSummary p).getLsbD 8 = (s.sel.source = some .A : Bool)
      ∧ (s.statusSummary p).getLsbD 7 = (s.sel.source = some .B : Bool)
      ∧ (s.statusSummary p).getLsbD 6 = (s.sel.source = none : Bool)
      ∧ (s.statusSummary p).getLsbD 5 = (s.sel.agreement = .disagree : Bool)
      ∧ (s.statusSummary p).getLsbD 4 = (s.store.state = .erasing ∨ s.store.state = .writing ∨ s.store.state = .verifying : Bool)
      ∧ ∀ n, n < 4 → (s.statusSummary p).getLsbD n = false

/-! ## Conditions -/

/-- COND_READ returns the requester's set as it stands, its number of members and their codes, and clears it; it touches
no other set, no count and no other state; in STARTING it is answered NOT_READY and clears nothing (R163). -/
def Obligations.CondReadTakesTheSetAndClearsIt : Prop :=
  (∀ (r : Req) (s : State), Ready r .condRead s = true → s.store.device = .running →
      exec (.condRead r) s =
        .next (({ s.served r .condRead with
            cond := { s.cond with sets := s.cond.sets.set r.port [] } } : State).replied r .condRead .ok
          (.conditions s.cond.sets[r.port])))
    ∧ (∀ (r : Req) (s : State), s.store.device = .starting → s.inTransaction r.port = true →
        (s.served r .condRead).ports[r.port].queue.length < 4 →
          exec (.condRead r) s = .next (s.reported r .condRead .notReady .none))
    ∧ ∀ members : List Cond,
        (Payload.conditions members).bytes = BitVec.ofNat 8 members.length :: members.map Cond.code

/-- A raise of a device condition enters all four sets as one occurrence, and a raise of a port condition one set; a
member already present stays, and a count stops at 65535 (R157, R158, R162). -/
def Obligations.ARaiseEntersItsSetsAndCountsOnce : Prop :=
  ∀ (s : State) (c d : Cond) (p q : Port),
    (d ∈ (s.raise c).cond.sets[q] ↔ d = c ∨ d ∈ s.cond.sets[q])
      ∧ (d ∈ (s.raisePort c p).cond.sets[q] ↔ (q = p ∧ d = c) ∨ d ∈ s.cond.sets[q])
      ∧ ((s.raise c).cond.counts[d.index]).toNat =
          (if d = c then min ((s.cond.counts[d.index]).toNat + 1) 65535 else (s.cond.counts[d.index]).toNat)
      ∧ (s.raisePort c p).cond.counts = (s.raise c).cond.counts
      ∧ { s.raise c with cond := s.cond } = s ∧ { s.raisePort c p with cond := s.cond } = s

/-- At each publication COND raises every level condition in force, and no other, into every set, each raise one
occurrence (R160, R161). -/
def Obligations.EachPublicationRaisesTheLevelConditionsInForce : Prop :=
  ∀ (report : LevelReport) (rest : List LevelReport) (s : State),
    s.power = .running → s.arrivals.atCond = report :: rest →
      ∃ k,
        exec .levelReEvaluation s = .next { s with arrivals := { s.arrivals with atCond := rest }, cond := k }
          ∧ (∀ (p : Port) (c : Cond), c ∈ k.sets[p] ↔ s.inForce report c = true ∨ c ∈ s.cond.sets[p])
          ∧ ∀ c : Cond,
              k.counts[c.index] = if s.inForce report c then satInc s.cond.counts[c.index] else s.cond.counts[c.index]

/-! ## Time base -/

/-- A strobe goes to SEL and to both links with its number, time, fallback indication and tag, and the strobe number
advances (R102). Internally timed strobes fall P after the reference time and not before, in DIRECT only in FALLBACK and in
SCALED only without lock, marked when the mode is not FREE; in DIRECT, 4 × P without an accepted edge, and no less, enters
FALLBACK with a strobe and SYNC_LOST (R104, R108, R109, R110, R115).
That the commands change nothing before their time or in another state is the model's choice, log 3, and so is a strobe still
issued after its time, log 26. -/
def Obligations.InternalStrobesFollowTheReferenceTime : Prop :=
  (∀ (s : State) (time : Micros) (fallback : Bool) (tag : Option SyncTag),
      s.issueStrobe time fallback tag =
        { s with
          tb := { s.tb with strobeNumber := s.tb.strobeNumber + 1, refTime := some time, strobeIssued := true },
          arrivals :=
            { s.arrivals with
              strobesToSel := s.arrivals.strobesToSel ++ [⟨s.tb.strobeNumber, time, fallback, tag⟩],
              strobesToLink :=
                ⟨s.arrivals.strobesToLink.a ++ [s.tb.strobeNumber],
                  s.arrivals.strobesToLink.b ++ [s.tb.strobeNumber]⟩ } })
    ∧ (∀ s : State, s.tb.strobing = false ∨ s.tb.timing = none ∨ s.tb.refTime = none →
        exec .freeStrobe s = .next s ∧ exec .fallbackCheck s = .next s)
    ∧ ∀ (s : State) (g : Timing) (ref : Micros),
        s.power = .running → s.tb.strobing = true → s.tb.timing = some g → s.tb.refTime = some ref →
          (s.since ref < g.rate.period → exec .freeStrobe s = .next s)
            ∧ (g.mode = .direct → s.tb.fallback = .edge → exec .freeStrobe s = .next s)
            ∧ (g.mode = .scaled → s.tb.lock = .locked ∨ s.tb.lock = .holdover → exec .freeStrobe s = .next s)
            ∧ ((g.mode = .free ∨ (g.mode = .direct ∧ s.tb.fallback = .fallback)
                ∨ (g.mode = .scaled ∧ (s.tb.lock = .unlocked ∨ s.tb.lock = .acquiring))) →
              g.rate.period ≤ s.since ref →
                exec .freeStrobe s = .next (s.issueStrobe s.tb.counter (g.mode ≠ .free) none))
            ∧ ((g.mode ≠ .direct ∨ s.tb.fallback = .fallback ∨ s.since ref < 4 * g.rate.period) →
              exec .fallbackCheck s = .next s)
            ∧ (g.mode = .direct → s.tb.fallback = .edge → 4 * g.rate.period ≤ s.since ref →
              exec .fallbackCheck s =
                .next (({ s.issueStrobe s.tb.counter true none with
                    tb := { (s.issueStrobe s.tb.counter true none).tb with fallback := .fallback } } : State).raise
                  .syncLost))

/-- A rising SYNC edge in DIRECT is accepted as a strobe when it is the first, or 200 µs or more after the reference
time, and ends FALLBACK; any other edge is rejected, counted, and moves no time (R107). -/
def Obligations.SyncEdgesAreAcceptedOrRejectedBySpacing : Prop :=
  ∀ (s : State) (g : Timing),
    s.power = .running → s.tb.strobing = true → s.tb.timing = some g → g.mode = .direct →
      ((s.tb.strobeIssued = false ∨ ∃ ref, s.tb.refTime = some ref ∧ 200 ≤ s.since ref) →
          exec .syncEdge s =
            .next { s.issueStrobe s.tb.counter false none with
              tb := { (s.issueStrobe s.tb.counter false none).tb with fallback := .edge } })
        ∧ (s.tb.strobeIssued = true → (∀ ref, s.tb.refTime = some ref → s.since ref < 200) →
          exec .syncEdge s =
            .next (({ s with tb := { s.tb with rejectCount := satInc s.tb.rejectCount } } : State).raise
              .syncEdgeReject))

/-- A SYNC pulse in SCALED, in UNLOCKED and ACQUIRING: the first starts a run, and each further one is measured by the
first case of R110 that fits; the third in-range interval within 1% enters LOCKED (R109, R110). -/
def Obligations.PulsesOfAnAcquisitionRunAreCounted : Prop :=
  ∀ (s : State) (g : Timing),
    s.power = .running → s.tb.strobing = true → s.tb.timing = some g → g.mode = .scaled →
      (s.tb.lock = .unlocked →
          exec .syncPulse s =
            .next { s with tb := { s.tb with lock := .acquiring, run := ⟨some s.tb.counter, none, 0⟩ } })
        ∧ ∀ last, s.tb.lock = .acquiring → s.tb.run.lastPulse = some last →
            ((s.since last < 250 * g.scale.toNat ∨ 2000 * g.scale.toNat < s.since last) →
                exec .syncPulse s =
                  .next (({ s with tb := { s.tb with run := ⟨some s.tb.counter, none, 0⟩ } } : State).raise .scaleRange))
              ∧ (250 * g.scale.toNat ≤ s.since last → s.since last ≤ 2000 * g.scale.toNat →
                (s.tb.run.count = 0 →
                    exec .syncPulse s =
                      .next { s with tb := { s.tb with run := ⟨some s.tb.counter, some (s.tb.counter - last), 1⟩ } })
                  ∧ ∀ i, s.tb.run.inRange = some i → 0 < s.tb.run.count →
                      (100 * ((s.since last : Int) - (i.toNat : Int)).natAbs ≤ i.toNat →
                          (s.tb.run.count ≠ 2 →
                              exec .syncPulse s =
                                .next { s with
                                  tb :=
                                    { s.tb with
                                      run := ⟨some s.tb.counter, some (s.tb.counter - last), s.tb.run.count + 1⟩ } })
                            ∧ (s.tb.run.count = 2 →
                              exec .syncPulse s =
                                .next (({ s with
                                    tb :=
                                      { s.tb with
                                        lock := .locked, run := ⟨none, none, 0⟩, lockLost := false,
                                        lockRef :=
                                          some ⟨s.tb.counter, s.tb.counter - last, 0#16⟩ } } : State).startInterval
                                  s.tb.counter 0#16 1)))
                        ∧ (i.toNat < 100 * ((s.since last : Int) - (i.toNat : Int)).natAbs →
                          exec .syncPulse s =
                            .next { s with
                              tb := { s.tb with run := ⟨some s.tb.counter, some (s.tb.counter - last), 1⟩ } }))

/-- A SYNC pulse in LOCKED is accepted within 1% of the prediction and within the range, and in HOLDOVER within 1% of one
of the predictions 2 to 9; it starts the next interval. Any other pulse loses the lock and starts a new run
(R111, R112, R113, R115). -/
def Obligations.PulsesOfALockAreAcceptedInTheirWindows : Prop :=
  ∀ (s : State) (g : Timing) (ref : LockRef),
    s.power = .running → s.tb.strobing = true → s.tb.timing = some g → g.mode = .scaled →
      s.tb.lockRef = some ref → 0 < ref.i.toNat →
        (s.tb.lock = .locked →
            (100 * ((s.since ref.a : Int) - (ref.i.toNat : Int)).natAbs ≤ ref.i.toNat →
                (250 * g.scale.toNat ≤ s.since ref.a → s.since ref.a ≤ 2000 * g.scale.toNat →
                    exec .syncPulse s =
                      .next (({ s with
                          tb :=
                            { s.tb with
                              lockRef := some ⟨s.tb.counter, s.tb.counter - ref.a, ref.count + 1⟩,
                              run := ⟨none, none, 0⟩, lockLost := false } } : State).startInterval
                        s.tb.counter (ref.count + 1) 1))
                  ∧ ((s.since ref.a < 250 * g.scale.toNat ∨ 2000 * g.scale.toNat < s.since ref.a) →
                    exec .syncPulse s = .next (rejectPulse (s.raise .scaleRange))))
              ∧ (ref.i.toNat < 100 * ((s.since ref.a : Int) - (ref.i.toNat : Int)).natAbs →
                exec .syncPulse s = .next (rejectPulse s)))
          ∧ (s.tb.lock = .holdover →
            (∀ m : Nat, 2 ≤ m → m ≤ 9 → 100 * ((s.since ref.a : Int) - ((m * ref.i.toNat : Nat) : Int)).natAbs ≤ ref.i.toNat →
                exec .syncPulse s =
                  .next (({ s with
                      tb :=
                        { s.tb with
                          lock := .locked, lockRef := some ⟨s.tb.counter, ref.i, ref.count + BitVec.ofNat 16 m⟩,
                          run := ⟨none, none, 0⟩, lockLost := false } } : State).startInterval
                    s.tb.counter (ref.count + BitVec.ofNat 16 m) 1))
              ∧ ((∀ m : Nat, 2 ≤ m → m ≤ 9 → ref.i.toNat < 100 * ((s.since ref.a : Int) - ((m * ref.i.toNat : Nat) : Int)).natAbs) →
                exec .syncPulse s = .next (rejectPulse s)))
          ∧ ∀ u : State,
              rejectPulse u =
                ({ u with
                    tb :=
                      { u.tb with
                        lock := .acquiring, run := ⟨some u.tb.counter, none, 0⟩, lockRef := none, schedule := none,
                        lockLost := true } } : State).raiseIf
                  (!u.tb.lockLost) .syncUnlock

/-- An interval begins with its strobe 0, tagged with the pulse count and phase 0, at once or, less than 200 µs after the
strobe before, when they have passed (R106, R111, R114). In LOCKED and HOLDOVER, strobe k falls floor(k × I / S) after the
origin; a window that closes without a pulse begins a virtual interval; 1.05 × I after A the state is HOLDOVER with
SYNC_UNLOCK; and the close of the window of prediction 9 ends it; and none of them comes before its time or without a lock
(R111 to R115).
Where a late virtual origin and a delayed strobe 0 stand are the model's readings, log 22 and log 23; that a command before
its time changes nothing is its choice, log 3, and so is an event still taken after its time, log 26. -/
def Obligations.TheScheduleOfALockIsKept : Prop :=
  ∀ (s : State) (g : Timing) (ref : LockRef) (sch : Schedule),
    s.power = .running → s.tb.strobing = true → s.tb.timing = some g → g.mode = .scaled →
      s.tb.lockRef = some ref → s.tb.schedule = some sch →
        (s.tb.lock ≠ .locked → s.tb.lock ≠ .holdover →
            exec .scheduledStrobe s = .next s ∧ exec .virtualOrigin s = .next s ∧ exec .holdoverDeadline s = .next s
              ∧ exec .holdoverEnd s = .next s)
          ∧ ((g.scale.toNat ≤ sch.phase.toNat ∨ s.since sch.origin < sch.phase.toNat * ref.i.toNat / g.scale.toNat
                ∨ (s.tb.strobeIssued = true ∧ ∃ last, s.tb.refTime = some last ∧ s.since last < 200)) →
              exec .scheduledStrobe s = .next s)
          ∧ ((s.tb.lock = .locked ∧ sch.prediction ≠ 1 ∨ s.tb.lock = .holdover ∧ 8 < sch.prediction
                ∨ s.since ref.a < sch.prediction * ref.i.toNat + ref.i.toNat / 100 + 1) →
              exec .virtualOrigin s = .next s)
          ∧ ((s.tb.lock ≠ .locked ∨ 100 * s.since ref.a < 105 * ref.i.toNat) → exec .holdoverDeadline s = .next s)
          ∧ ((s.tb.lock ≠ .holdover ∨ sch.prediction < 9 ∨ s.since ref.a < 9 * ref.i.toNat + ref.i.toNat / 100 + 1) →
              exec .holdoverEnd s = .next s)
          ∧ (∀ (origin last : Micros) (count : BitVec 16) (m : Nat), s.tb.strobeIssued = true → s.tb.refTime = some last →
            (200 ≤ s.since last →
                s.startInterval origin count m =
                  { s.issueStrobe s.tb.counter false (some ⟨count, 0#16⟩) with
                    tb :=
                      { (s.issueStrobe s.tb.counter false (some ⟨count, 0#16⟩)).tb with
                        schedule := some ⟨origin, 1#16, count, m⟩ } })
              ∧ (s.since last < 200 →
                s.startInterval origin count m =
                  { s with tb := { s.tb with schedule := some ⟨origin, 0#16, count, m⟩ } }))
          ∧ (∀ last, s.tb.lock = .locked ∨ s.tb.lock = .holdover → s.tb.refTime = some last → 200 ≤ s.since last →
            sch.phase.toNat < g.scale.toNat → sch.phase.toNat * ref.i.toNat / g.scale.toNat ≤ s.since sch.origin →
              exec .scheduledStrobe s =
                .next { s.issueStrobe s.tb.counter false (some ⟨sch.count, sch.phase⟩) with
                  tb :=
                    { (s.issueStrobe s.tb.counter false (some ⟨sch.count, sch.phase⟩)).tb with
                      schedule := some { sch with phase := sch.phase + 1 } } })
          ∧ ((s.tb.lock = .locked ∧ sch.prediction = 1 ∨ s.tb.lock = .holdover ∧ sch.prediction ≤ 8) →
            sch.prediction * ref.i.toNat + ref.i.toNat / 100 + 1 ≤ s.since ref.a →
              exec .virtualOrigin s =
                .next (s.startInterval
                  (ref.a + BitVec.ofNat 48 (sch.prediction * ref.i.toNat + ref.i.toNat / 100 + 1))
                  (ref.count + BitVec.ofNat 16 sch.prediction) (sch.prediction + 1)))
          ∧ (s.tb.lock = .locked → 105 * ref.i.toNat ≤ 100 * s.since ref.a →
            exec .holdoverDeadline s =
              .next (({ s with tb := { s.tb with lock := .holdover, lockLost := true } } : State).raiseIf
                (!s.tb.lockLost) .syncUnlock))
          ∧ (s.tb.lock = .holdover → 9 ≤ sch.prediction → 9 * ref.i.toNat + ref.i.toNat / 100 + 1 ≤ s.since ref.a →
            exec .holdoverEnd s =
              .next { s with
                tb :=
                  { s.tb with lock := .unlocked, run := ⟨none, none, 0⟩, lockRef := none, schedule := none } })

/-- New timing items are taken by the table of R116, and equal ones change nothing; a strobe whose computed time has already
passed when the change is taken is issued at once, and no other (R116, with R108 for the fallback strobe of DIRECT). That the
fallback state is kept across a change to SCALED, and that a strobe of the very same microsecond is left to its own event, are
the model's readings, log 21. -/
def Obligations.TimingChangesFollowTheirTable : Prop :=
  (∀ (s : State) (g : Timing) (rest : List Timing), s.power = .running → s.arrivals.timings = g :: rest →
      s.tb.timing = some g → exec .timingChange s = .next { s with arrivals := { s.arrivals with timings := rest } })
    ∧ ∀ (s u : State) (g : Timing) (rest : List Timing) (tb : TimeBase),
        s.power = .running → s.arrivals.timings = g :: rest → s.tb.timing ≠ some g →
          ((g.mode = .free ∨ (g.mode = .direct ∧ s.tb.timing.map Timing.mode ≠ some .direct))
                ∧ tb =
                  { s.tb with
                    timing := some g, fallback := .edge, lock := .unlocked, run := ⟨none, none, 0⟩, lockRef := none,
                    schedule := none, lockLost := false }
              ∨ (g.mode = .direct ∧ s.tb.timing.map Timing.mode = some .direct) ∧ tb = { s.tb with timing := some g }
              ∨ g.mode = .scaled
                ∧ tb =
                  { s.tb with
                    timing := some g, lock := .unlocked, run := ⟨none, none, 0⟩, lockRef := none, schedule := none,
                    lockLost := false }) →
            u = { s with arrivals := { s.arrivals with timings := rest }, tb := tb } →
              ((tb.strobing = false ∨ tb.refTime = none) → exec .timingChange s = .next u)
                ∧ ∀ ref, tb.strobing = true → tb.refTime = some ref →
                    ((g.mode ≠ .direct ∨ tb.fallback = .fallback) →
                        (u.since ref ≤ g.rate.period → exec .timingChange s = .next u)
                          ∧ (g.rate.period < u.since ref →
                            exec .timingChange s = .next (u.issueStrobe s.tb.counter (g.mode ≠ .free) none)))
                      ∧ (g.mode = .direct → tb.fallback = .edge →
                        (u.since ref ≤ 4 * g.rate.period → exec .timingChange s = .next u)
                          ∧ (4 * g.rate.period < u.since ref →
                            exec .timingChange s =
                              .next (({ u.issueStrobe s.tb.counter true none with
                                  tb :=
                                    { (u.issueStrobe s.tb.counter true none).tb with
                                      fallback := .fallback } } : State).raise
                                .syncLost)))

/-- No command makes TB issue a strobe less than 200 µs after the strobe before, and none issues two at once (R106). The
commands of reset and supply, which issue none, are apart. -/
def Obligations.NoStrobeFollowsAnotherWithin200Microseconds : Prop :=
  ∀ (c : Instr) (s t : State) (ref : Micros),
    (∀ cause, c ≠ .partReset cause) → c ≠ .resetRelease → c ≠ .powerLoss →
      s.store.device = .running → s.tb.strobeIssued = true → s.tb.refTime = some ref → exec c s = .next t →
        (t.tb.strobeNumber = s.tb.strobeNumber ∧ t.tb.refTime = s.tb.refTime)
          ∨ (t.tb.strobeNumber = s.tb.strobeNumber + 1 ∧ t.tb.refTime = some s.tb.counter ∧ 200 ≤ s.since ref)

/-! ## Publications -/

/-- The close of a window makes one publication, which goes to HIST, DELTA and COND, and charges the misses (R48, R50, R56,
R61, R62, R63). A strobe at SEL closes an OPEN window and opens its own, expecting the links that are SYNCING, UP or FOREIGN,
and a window that expects none closes as it opens (R43, R44, R64). -/
def Obligations.AStrobeClosesOneWindowAndOpensTheNext : Prop :=
  (∀ l : LinkState, l.expected = true ↔ l = .syncing ∨ l = .up ∨ l = .foreign)
    ∧ (∀ (s t : State) (st : Strobe) (p : Publication),
        s.sel.current = some st → p = (s.closing st).1 → t = s.closeWindow →
          t.arrivals =
              { s.arrivals with
                appends := s.arrivals.appends ++ [p], atDelta := s.arrivals.atDelta ++ [p],
                atCond := s.arrivals.atCond ++ [⟨p.source = none, p.flags.suspect⟩],
                misses :=
                  ⟨s.arrivals.misses.a + (if s.sel.expected.a = true ∧ s.sel.frames.a = none then 1 else 0),
                    s.arrivals.misses.b + (if s.sel.expected.b = true ∧ s.sel.frames.b = none then 1 else 0)⟩ }
            ∧ p.number = s.sel.counter ∧ p.time = st.time ∧ p.strobe = st.number ∧ p.tag = st.tag
            ∧ p.epoch = s.cfg.epoch ∧ p.flags.syncFallback = st.fallback
            ∧ (s.sel.previousTime = none → p.interval = 0#48)
            ∧ (∀ before, s.sel.previousTime = some before → p.interval = st.time - before)
            ∧ (p.flags.epochChange = true ↔ ∃ e, s.sel.previousEpoch = some e ∧ e ≠ s.cfg.epoch)
            ∧ (p.flags.sourceChange = true ↔ p.source ≠ s.sel.source)
            ∧ (p.flags.suspect = true ↔ t.sel.agreement = .disagree)
            ∧ t.sel.source = p.source ∧ t.sel.counter = s.sel.counter + 1
            ∧ t.sel.previousTime = some st.time ∧ t.sel.previousEpoch = some s.cfg.epoch
            ∧ t.sel.window = .closed ∧ t.sel.current = some st ∧ t.sel.previous = s.sel.previous
            ∧ t.sel.frames = s.sel.frames ∧ t.sel.expected = s.sel.expected
            ∧ (p.source = s.sel.source → t.cond = s.cond)
            ∧ (p.source ≠ s.sel.source → t.cond = (s.raise .sourceSwitch).cond)
            ∧ { t with sel := s.sel, arrivals := s.arrivals, cond := s.cond } = s)
    ∧ ∀ (strobe : Strobe) (rest : List Strobe) (s v w : State),
        s.power = .running → s.arrivals.strobesToSel = strobe :: rest →
          (s.sel.window ≠ .opened → v = { s with arrivals := { s.arrivals with strobesToSel := rest } }) →
          (s.sel.window = .opened →
            v = ({ s with arrivals := { s.arrivals with strobesToSel := rest } } : State).closeWindow) →
            w =
              { v with
                sel :=
                  { v.sel with
                    window := .opened, previous := s.sel.current.map Strobe.number, current := some strobe,
                    frames := ⟨none, none⟩,
                    expected := ⟨s.links.a.state.expected, s.links.b.state.expected⟩ } } →
              ((s.links.a.state.expected = true ∨ s.links.b.state.expected = true) → exec .strobeAtSel s = .next w)
                ∧ (s.links.a.state.expected = false → s.links.b.state.expected = false →
                  exec .strobeAtSel s = .next w.closeWindow)

/-- A publication carries the calibrated values of its source, or in a hold the last values for eight windows, flagged
HELD, and then zeros, flagged VOID (R52, R57, R58, R61, R62). -/
def Obligations.PublicationsCarryTheirSourceOrRepeatThenVoid : Prop :=
  ∀ (s : State) (st : Strobe) (p : Publication) (sel : Selector), s.closing st = (p, sel) →
    (∀ x, p.source = some x →
        ∃ c f,
          s.calibrated x = some c ∧ s.sel.frames.get x = some f
            ∧ c = calibrate (s.store.factoryAsRead x) (s.cfg.active.user.get x) f
            ∧ p.gyro = c.gyro ∧ p.accel = c.accel ∧ p.temp = some f.temp ∧ p.flags.saturated = c.clipped
            ∧ p.flags.held = false ∧ p.flags.void = false ∧ sel.heldCount = 0#16
            ∧ sel.lastValues = some (c.gyro, c.accel))
      ∧ (p.source = none →
        p.temp = none ∧ p.flags.saturated = false
          ∧ sel.heldCount.toNat = min (s.sel.heldCount.toNat + 1) 65535
          ∧ sel.lastValues = s.sel.lastValues
          ∧ (∀ g a, s.sel.lastValues = some (g, a) → s.sel.heldCount.toNat < 8 →
              p.gyro = g ∧ p.accel = a ∧ p.flags.held = true ∧ p.flags.void = false)
          ∧ ((s.sel.lastValues = none ∨ 8 ≤ s.sel.heldCount.toNat) →
              p.gyro = ⟨0#32, 0#32, 0#32⟩ ∧ p.accel = ⟨0#32, 0#32, 0#32⟩ ∧ p.flags.held = false
                ∧ p.flags.void = true))

/-- A head is usable by the four tests of R49; the source follows the tables of R53 and R54 from the hold-off count of
R55; two usable heads are compared against the thresholds, and the agreement state follows the table of R60 (R49, R53 to
R56, R59, R60). -/
def Obligations.TheSourceAndTheAgreementFollowTheirTables : Prop :=
  (∀ (s : State) (x : Head),
      s.usable x = true ↔
        (s.links.get x).state = .up ∧ (∃ f, s.sel.frames.get x = some f ∧ f.status = 0#8)
          ∧ s.store.factoryValidity.get x = .valid)
    ∧ (∀ (active : Option Head) (count hold : Nat) (u : Head → Bool),
        chooseSource .aOnly active count hold u = (if u .A then some .A else none)
          ∧ chooseSource .bOnly active count hold u = if u .B then some .B else none)
    ∧ (∀ (mode : SourceMode) (x : Head) (active : Option Head) (count hold : Nat) (u : Head → Bool),
        mode.preferred = some x →
          (active = some x → u x = true → chooseSource mode active count hold u = some x)
            ∧ (active = some x.other → u x.other = true →
              chooseSource mode active count hold u = if u x = true ∧ hold < count then some x else some x.other)
            ∧ ((active = none ∨ ∃ h, active = some h ∧ u h = false) →
              chooseSource mode active count hold u =
                if u x then some x else if u x.other then some x.other else none))
    ∧ (∀ (sel : Selector) (mode : SourceMode) (u : Head → Bool),
        (mode.preferred = none → holdOffCount sel mode u = (none, 0))
          ∧ ∀ x, mode.preferred = some x →
              holdOffCount sel mode u =
                (some x, if u x then min ((if sel.counted = some x then sel.holdOff else 0) + 1) 65536 else 0))
    ∧ (∀ (s : State) (st : Strobe),
        (s.closing st).1.source =
            chooseSource s.cfg.active.mode s.sel.source (holdOffCount s.sel s.cfg.active.mode s.usable).2
              s.cfg.active.holdOff.toNat s.usable
          ∧ (s.closing st).2.counted = s.cfg.active.mode.preferred
          ∧ (s.closing st).2.holdOff =
              (if (s.closing st).1.source = s.sel.source then (holdOffCount s.sel s.cfg.active.mode s.usable).2 else 0)
          ∧ (∀ a b, s.calibrated .A = some a → s.calibrated .B = some b →
              ((s.closing st).2.agreement, (s.closing st).2.agreementCount) =
                monitor s.sel.agreement s.sel.agreementCount (disagrees s.cfg.active a b))
          ∧ ((s.usable .A = false ∨ s.usable .B = false) →
              ((s.closing st).2.agreement, (s.closing st).2.agreementCount) =
                (s.sel.agreement, s.sel.agreementCount)))
    ∧ (∀ (threshold : BitVec 32) (a b : Triple (BitVec 32)),
        differs threshold a b = true ↔
          threshold.toNat < (a.x.toInt - b.x.toInt).natAbs ∨ threshold.toNat < (a.y.toInt - b.y.toInt).natAbs
            ∨ threshold.toNat < (a.z.toInt - b.z.toInt).natAbs)
    ∧ (∀ (image : Image) (a b : Calibrated),
        disagrees image a b = true ↔
          differs image.gyroThreshold a.gyro b.gyro = true ∨ differs image.accelThreshold a.accel b.accel = true)
    ∧ (SourceMode.preferred .aOnly = none ∧ SourceMode.preferred .bOnly = none
      ∧ SourceMode.preferred .preferA = some .A ∧ SourceMode.preferred .preferB = some .B)
    ∧ ∀ n : Nat, n ≤ 15 →
        monitor .agree n false = (.agree, 0) ∧ monitor .disagree n true = (.disagree, 0)
          ∧ monitor .agree n true = (if n < 15 then (.agree, n + 1) else (.disagree, 0))
          ∧ monitor .disagree n false = if n < 15 then (.disagree, n + 1) else (.agree, 0)

/-! ## Head links -/

/-- An accepted SAMPLE frame is counted, moves its link by the table of R86, and is recorded at SEL; it does nothing to
the other link (R45, R84, R87, R88, R89, R90, R93, R95).
A command that a restart ends with LINK_LOST is the last command result, and its COMPLETION goes to the host that waits for it
(R95, R99).
That HEAD_SENSOR is tested on a RESTARTED frame too is the model's reading, log 18; that a COMMAND is sent as it is issued is
its choice, log 11. -/
def Obligations.AcceptedSamplesMoveTheirLinkAlone : Prop :=
  ∀ (x : Head) (f : SampleFrame) (st : Strobe) (s : State) (l : Link),
    s.power = .running → s.sel.current = some st → f.echo = st.number → s.sel.frames.get x = none →
      l = s.links.get x →
        ∃ t,
          exec (.sample x f) s = .next t ∧ t.sel.frames.get x = some f ∧ t.links.get x.other = s.links.get x.other
            ∧ t.sel.frames.get x.other = s.sel.frames.get x.other
            ∧ ((l.state = .absent ∨ l.state = .faulted) →
              t.links.get x =
                { l with
                  state := .syncing, tally := 0, goodCount := 1, confirmed := false, silence := 0,
                  accepted := satInc l.accepted, lastStatus := some f.status,
                  slot := some (l.slot.getD ⟨.identify, .internal, false, s.tb.counter⟩),
                  downstream := if l.slot = none then l.downstream ++ [.command .identify] else l.downstream })
            ∧ (l.state = .syncing → l.confirmed = true → 15 ≤ l.goodCount →
              t.links.get x =
                { l with
                  state := .up, tally := 0, goodCount := 0, confirmed := false, silence := 0,
                  accepted := satInc l.accepted, lastStatus := some f.status })
            ∧ (l.state = .syncing → l.confirmed = true → l.goodCount < 15 →
              t.links.get x =
                { l with
                  goodCount := l.goodCount + 1, silence := 0, accepted := satInc l.accepted,
                  lastStatus := some f.status })
            ∧ (l.state = .syncing → l.confirmed = false →
              t.links.get x =
                { l with
                  goodCount := min (l.goodCount + 1) 16, silence := 0, accepted := satInc l.accepted,
                  lastStatus := some f.status,
                  slot := some (l.slot.getD ⟨.identify, .internal, false, s.tb.counter⟩),
                  downstream := if l.slot = none then l.downstream ++ [.command .identify] else l.downstream })
            ∧ (l.state = .up → statusRestarted f.status = false →
              t.links.get x =
                { l with
                  tally := l.tally - 1, silence := 0, accepted := satInc l.accepted, lastStatus := some f.status })
            ∧ (l.state = .foreign → statusRestarted f.status = false →
              t.links.get x =
                { l with silence := 0, accepted := satInc l.accepted, lastStatus := some f.status })
            ∧ ((l.state = .up ∨ l.state = .foreign) → statusRestarted f.status = true →
              t.links.get x =
                { l with
                  state := .syncing, tally := 0, goodCount := 1, confirmed := false, silence := 0,
                  accepted := satInc l.accepted, lastStatus := some f.status,
                  slot := some ⟨.identify, .internal, false, s.tb.counter⟩,
                  lastResult := l.resultAfter .linkLost .none,
                  downstream := l.downstream ++ [.command .identify] })
            ∧ ((l.state = .up ∨ l.state = .foreign) → statusRestarted f.status = true →
              t.arrivals.completions = s.arrivals.completions ++ l.completionOf x .linkLost .none)
            ∧ (((l.state ≠ .up ∧ l.state ≠ .foreign) ∨ statusRestarted f.status = false) →
              t.arrivals.completions = s.arrivals.completions)
            ∧ (l.state = .up → newFaults l.lastStatus f.status ≠ 0#6 → ∀ p : Port, Cond.headSensor x ∈ t.cond.sets[p])

/-- An accepted SAMPLE frame is recorded against the current strobe. When it is the last that an OPEN window awaits, the
window closes early in the same event, with the link as the frame leaves it: its publication goes to HIST, DELTA and COND and
charges no miss; otherwise nothing is published (R45, R47, R48, R50, R56, R63, R84). The condition sets gain HEAD_SENSOR by the
link's new axis faults in UP (R90) and SOURCE_SWITCH by a change of source, and nothing else; that a RESTARTED frame is tested
for HEAD_SENSOR too is the model's reading, log 18. -/
def Obligations.TheLastAwaitedFrameClosesItsWindow : Prop :=
  ∀ (x : Head) (f : SampleFrame) (st : Strobe) (s : State) (sel : Selector),
    s.power = .running → s.sel.current = some st → f.echo = st.number → s.sel.frames.get x = none →
      sel = { s.sel with frames := s.sel.frames.set x (some f) } →
        ∃ t,
          exec (.sample x f) s = .next t
            ∧ ((s.sel.window ≠ .opened ∨ ∃ y : Head, sel.expected.get y = true ∧ sel.frames.get y = none) →
              t.sel = sel ∧ { t.arrivals with completions := s.arrivals.completions } = s.arrivals
                ∧ ∀ (q : Port) (c : Cond),
                    c ∈ t.cond.sets[q] ↔
                      c ∈ s.cond.sets[q]
                        ∨ c = .headSensor x ∧ (s.links.get x).state = .up
                            ∧ newFaults (s.links.get x).lastStatus f.status ≠ 0#6)
            ∧ (s.sel.window = .opened → (∀ y : Head, sel.expected.get y = true → sel.frames.get y ≠ none) →
              ∀ p, p = (({ s with sel := sel, links := t.links } : State).closing st).1 →
                t.sel = (({ s with sel := sel, links := t.links } : State).closing st).2
                  ∧ { t.arrivals with completions := s.arrivals.completions } =
                      { s.arrivals with
                        appends := s.arrivals.appends ++ [p], atDelta := s.arrivals.atDelta ++ [p],
                        atCond := s.arrivals.atCond ++ [⟨p.source = none, p.flags.suspect⟩] }
                  ∧ t.sel.window = .closed ∧ t.sel.current = some st ∧ t.sel.frames = sel.frames
                  ∧ t.sel.counter = s.sel.counter + 1 ∧ p.number = s.sel.counter ∧ p.time = st.time
                  ∧ p.strobe = st.number ∧ p.epoch = s.cfg.epoch
                  ∧ ∀ (q : Port) (c : Cond),
                      c ∈ t.cond.sets[q] ↔
                        c ∈ s.cond.sets[q]
                          ∨ (c = .headSensor x ∧ (s.links.get x).state = .up
                              ∧ newFaults (s.links.get x).lastStatus f.status ≠ 0#6)
                          ∨ c = .sourceSwitch ∧ p.source ≠ s.sel.source)
            ∧ { t with links := s.links, sel := s.sel, arrivals := s.arrivals, cond := s.cond } = s

/-- A frame that is not accepted, and a miss, is classified, counted and charged to the state of its link: by weight to
the tally in UP, up to LINK_FAULT at 64, to the run in SYNCING, and a miss also to the silence count, up to LINK_LOST at 64
(R83, R85, R87, R89, R91, R92, R93). The command in the slot of a link that becomes FAULTED or ABSENT ends with LINK_LOST, as
the last command result and with a COMPLETION to the host that waits for it (R95, R99).
That the tally comes before the silence count in UP is the model's reading, log 17, and that a miss in FAULTED never counts as
silence its choice, log 32. -/
def Obligations.ErrorsAreCountedAndChargedToTheirLink : Prop :=
  (∀ (x : Head) (s : State), s.power = .running →
      (∀ bytes, decodeUpstream x bytes = none →
          exec (.crcError x bytes) s = .next ((s.linkError x .crcError).keepIdentifying x))
        ∧ (∀ f : SampleFrame, (s.sel.current.map Strobe.number ≠ some f.echo ∨ s.sel.frames.get x ≠ none) →
          (s.sel.previous = some f.echo → exec (.sample x f) s = .next ((s.linkError x .late).keepIdentifying x))
            ∧ (s.sel.previous ≠ some f.echo →
              exec (.sample x f) s = .next ((s.linkError x .mismatch).keepIdentifying x)))
        ∧ (∀ body, ((s.links.get x).slot.map Command.kind) ≠ some (responseKind body) →
          exec (.response x body) s = .next ((s.linkError x .mismatch).keepIdentifying x))
        ∧ ∀ n, s.arrivals.misses.get x = n + 1 →
          exec (.miss x) s =
            .next ((({ s with
                arrivals := { s.arrivals with misses := s.arrivals.misses.set x n } } : State).linkError
              x .missed).keepIdentifying x))
    ∧ ∀ (x : Head) (s : State) (l : Link) (e : LinkError) (quiet : Nat), l = s.links.get x →
        quiet = l.silence + (if e = .missed then 1 else 0) →
          ((l.state = .absent ∨ l.state = .faulted) → s.linkError x e = s.modifyLink x fun _ => l.countError e)
            ∧ (l.state = .syncing → quiet < 64 →
              s.linkError x e = s.modifyLink x fun _ => { l.countError e with goodCount := 0, silence := quiet })
            ∧ (l.state = .foreign → quiet < 64 →
              s.linkError x e = s.modifyLink x fun _ => { l.countError e with silence := quiet })
            ∧ (l.state = .up → l.tally + e.weight < 64 → quiet < 64 →
              s.linkError x e =
                s.modifyLink x fun _ => { l.countError e with tally := l.tally + e.weight, silence := quiet })
            ∧ (l.state = .up → 64 ≤ l.tally + e.weight →
              s.linkError x e =
                (({ s with
                    arrivals :=
                      { s.arrivals with
                        completions := s.arrivals.completions ++ l.completionOf x .linkLost .none } } : State).modifyLink
                  x fun _ =>
                    { l.countError e with
                      state := .faulted, tally := 0, silence := 0, slot := none,
                      lastResult := l.resultAfter .linkLost .none }).raise (.linkFault x))
            ∧ ((l.state = .syncing ∨ l.state = .foreign ∨ l.state = .up ∧ l.tally + e.weight < 64) → 64 ≤ quiet →
              s.linkError x e =
                (({ s with
                    arrivals :=
                      { s.arrivals with
                        completions := s.arrivals.completions ++ l.completionOf x .linkLost .none } } : State).modifyLink
                  x fun _ =>
                    { l.countError e with
                      state := .absent, tally := 0, goodCount := 0, confirmed := false, silence := 0, slot := none,
                      lastResult := l.resultAfter .linkLost .none }).raise (.linkLost x))
            ∧ LinkError.weight .crcError = 8 ∧ LinkError.weight .mismatch = 8 ∧ LinkError.weight .missed = 4
            ∧ LinkError.weight .late = 4

/-- A RESPONSE of the kind in the slot ends the command with its result, and 100 ms without one, and no less, end it with
TIMEOUT; the outcome is kept as the last result and goes to a host that waits for it, and a link that is SYNCING and
unconfirmed is given a fresh IDENTIFY at once (R88, R95, R97, R99, R100). An IDENTIFY response in SYNCING is apart.
The 100 ms count from the issue of the command, log 11, and stay due when they are passed, log 26; before them the command
changes nothing, log 3; an outcome code other than 0 and 1 passes or fails by a free value, log 19. -/
def Obligations.ACommandEndsByItsResponseOrItsTimeout : Prop :=
  (outcomePass 0#8 = true ∧ outcomePass 1#8 = false)
    ∧ (∀ (x : Head) (s : State), (s.links.get x).slot = none → exec (.commandTimeout x) s = .next s)
    ∧ ∀ (x : Head) (s : State) (l : Link) (c : Command),
        s.power = .running → l = s.links.get x → l.slot = some c →
          (∀ body result detail,
              ((∃ serial model, body = .identify serial model ∧ result = .done ∧ detail = .identity serial model)
                  ∨ (∃ outcome failSet, body = .selfTest outcome failSet ∧ outcomePass outcome = true ∧ result = .pass
                      ∧ detail = .failSet 0#6)
                  ∨ ∃ outcome failSet, body = .selfTest outcome failSet ∧ outcomePass outcome = false ∧ result = .fail
                      ∧ detail = .failSet (failSet.setWidth 6)) →
                c.kind = responseKind body → (l.state = .syncing → c.kind = .selfTest) →
                  ∃ t,
                    exec (.response x body) s = .next t
                      ∧ t.links =
                          s.links.set x
                            { l.afterCommand result detail s.tb.counter with accepted := satInc l.accepted }
                      ∧ (result = .fail → t.cond = (s.raise (.headSelfTestFail x)).cond)
                      ∧ (result ≠ .fail → t.cond = s.cond)
                      ∧ t.arrivals =
                          { s.arrivals with
                            completions := s.arrivals.completions ++ l.completionOf x result detail }
                      ∧ { t with links := s.links, arrivals := s.arrivals, cond := s.cond } = s)
            ∧ (s.since c.sentAt < 100000 → exec (.commandTimeout x) s = .next s)
            ∧ (100000 ≤ s.since c.sentAt →
              exec (.commandTimeout x) s =
                .next { s with
                  links := s.links.set x (l.afterCommand .timeout .none s.tb.counter),
                  arrivals :=
                    { s.arrivals with
                      completions := s.arrivals.completions ++ l.completionOf x .timeout .none } })

/-- An IDENTIFY response taken in SYNCING is compared with the factory record: it confirms the identity, and brings a
finished run UP, or finds the head foreign; the command ends DONE, and a host that waits for it is told (R68, R87, R88, R95,
R99). -/
def Obligations.AnIdentifyResponseIsComparedInSyncing : Prop :=
  ∀ (x : Head) (serial : BitVec 32) (model : BitVec 16) (s : State) (l : Link) (c : Command),
    s.power = .running → l = s.links.get x → l.state = .syncing → l.slot = some c → c.kind = .identify →
      ∃ t,
        exec (.response x (.identify serial model)) s = .next t
          ∧ (t.links.get x).slot = none ∧ t.links.get x.other = s.links.get x.other
          ∧ (t.links.get x).lastResult = l.resultAfter .done (.identity serial model)
          ∧ (t.links.get x).accepted = satInc l.accepted
          ∧ t.arrivals =
              { s.arrivals with
                completions := s.arrivals.completions ++ l.completionOf x .done (.identity serial model) }
          ∧ ((s.store.factoryValidity.get x ≠ .valid ∨ (s.store.factoryAsRead x).serial = 0#32
                ∨ (s.store.factoryAsRead x).serial = serial) →
              t.cond = s.cond
                ∧ (l.goodCount = 16 →
                  (t.links.get x).state = .up ∧ (t.links.get x).tally = 0 ∧ (t.links.get x).goodCount = 0
                    ∧ (t.links.get x).confirmed = false)
                ∧ (l.goodCount ≠ 16 →
                  (t.links.get x).state = .syncing ∧ (t.links.get x).confirmed = true
                    ∧ (t.links.get x).goodCount = l.goodCount))
          ∧ (s.store.factoryValidity.get x = .valid → (s.store.factoryAsRead x).serial ≠ 0#32 →
              (s.store.factoryAsRead x).serial ≠ serial →
                (t.links.get x).state = .foreign ∧ (t.links.get x).goodCount = 0 ∧ (t.links.get x).confirmed = false
                  ∧ ∀ p : Port, Cond.headForeign x ∈ t.cond.sets[p])

/-- A strobe at a link is sent down it in every state; in FAULTED the link charges itself a miss, and at 64 windows of
silence goes ABSENT with LINK_LOST, as does the command in its slot, with a COMPLETION to the host that waits for it
(R80, R91, R92, R95, R99). -/
def Obligations.AStrobeIsSentDownEachLink : Prop :=
  ∀ (x : Head) (n : BitVec 8) (rest : List (BitVec 8)) (s : State) (l : Link),
    s.power = .running → l = s.links.get x → s.arrivals.strobesToLink.get x = n :: rest →
      ∃ t,
        exec (.strobeAtLink x) s = .next t ∧ t.links.get x.other = s.links.get x.other ∧ t.sel = s.sel
          ∧ t.arrivals.strobesToLink = s.arrivals.strobesToLink.set x rest
          ∧ (l.state ≠ .faulted →
              t.links.get x = { l with downstream := l.downstream ++ [.strobe n] } ∧ t.cond = s.cond
                ∧ t.arrivals.completions = s.arrivals.completions)
          ∧ (l.state = .faulted → l.silence < 63 →
              t.links.get x =
                  { l with
                    downstream := l.downstream ++ [.strobe n], missed := satInc l.missed, silence := l.silence + 1 }
                ∧ t.cond = s.cond ∧ t.arrivals.completions = s.arrivals.completions)
          ∧ (l.state = .faulted → l.silence = 63 →
              (t.links.get x).state = .absent ∧ (t.links.get x).silence = 0
                ∧ (t.links.get x).missed = satInc l.missed
                ∧ (t.links.get x).downstream = l.downstream ++ [.strobe n]
                ∧ (t.links.get x).slot = none ∧ (t.links.get x).lastResult = l.resultAfter .linkLost .none
                ∧ t.arrivals.completions = s.arrivals.completions ++ l.completionOf x .linkLost .none
                ∧ ∀ p : Port, Cond.linkLost x ∈ t.cond.sets[p])

/-- HEAD_IDENT and HEAD_TEST make their checks in order, and a command that passes them enters the empty slot, its COMMAND
message is issued, and the reply is ACCEPTED (R80, R94, R96, R97).
The sending time kept is the time of issue, log 11. -/
def Obligations.HeadCommandsEnterAnEmptySlot : Prop :=
  ∀ (r : Req) (head : Byte) (s : State) (kind : CommandKind), Ready r kind.request s = true →
    ∀ c : Instr, (kind = .identify → c = .headIdent r head) → (kind = .selfTest → c = .headTest r head) →
      (headOf head = none → exec c s = .next (s.reported r kind.request .outOfRange .none))
        ∧ (headOf head ≠ none → kind = .selfTest → s.cfg.holds r.port = false →
          exec c s = .next (s.reported r kind.request .notHolder .none))
        ∧ ∀ x, headOf head = some x → (kind = .selfTest → s.cfg.holds r.port = true) →
            ((s.links.get x).state = .absent → exec c s = .next (s.reported r kind.request .notPresent .none))
              ∧ ((s.links.get x).state ≠ .absent → (s.links.get x).slot ≠ none →
                exec c s = .next (s.reported r kind.request .busy .none))
              ∧ ((s.links.get x).state ≠ .absent → (s.links.get x).slot = none →
                exec c s =
                  .next (((s.served r kind.request).modifyLink x fun l =>
                      { l with
                        slot := some ⟨kind, .host r.port r.tag, false, s.tb.counter⟩,
                        downstream := l.downstream ++ [.command kind] }).replied
                    r kind.request .accepted (.head x)))

/-! ## Calibration -/

/-- A stage ends in one rounding of its whole sum to the nearest integer, halves to the larger magnitude (R71 to R73). -/
def Obligations.EachStageRoundsItsWholeSumOnce : Prop :=
  (∀ (n : Nat) (v : Int), 0 < n →
      2 * (v - roundHalfAway n v * 2 ^ n).natAbs ≤ 2 ^ n
        ∧ (2 * (v - roundHalfAway n v * 2 ^ n).natAbs = 2 ^ n → v.natAbs < (roundHalfAway n v * 2 ^ n).natAbs))
    ∧ (∀ (m : Mat3 (BitVec 32)) (bias raw : Triple (BitVec 24)),
        (factoryStage m bias raw).x =
            roundHalfAway 24
              (m.x.x.toInt * (raw.x.toInt - bias.x.toInt) + m.x.y.toInt * (raw.y.toInt - bias.y.toInt)
                + m.x.z.toInt * (raw.z.toInt - bias.z.toInt))
          ∧ (factoryStage m bias raw).y =
              roundHalfAway 24
                (m.y.x.toInt * (raw.x.toInt - bias.x.toInt) + m.y.y.toInt * (raw.y.toInt - bias.y.toInt)
                  + m.y.z.toInt * (raw.z.toInt - bias.z.toInt))
          ∧ (factoryStage m bias raw).z =
              roundHalfAway 24
                (m.z.x.toInt * (raw.x.toInt - bias.x.toInt) + m.z.y.toInt * (raw.y.toInt - bias.y.toInt)
                  + m.z.z.toInt * (raw.z.toInt - bias.z.toInt)))
    ∧ ∀ (m : Mat3 (BitVec 32)) (trim : Triple (BitVec 32)) (u : Triple Int),
        (userStage m trim u).x =
            roundHalfAway 30 (m.x.x.toInt * u.x + m.x.y.toInt * u.y + m.x.z.toInt * u.z + trim.x.toInt * 2 ^ 30)
          ∧ (userStage m trim u).y =
              roundHalfAway 30 (m.y.x.toInt * u.x + m.y.y.toInt * u.y + m.y.z.toInt * u.z + trim.y.toInt * 2 ^ 30)
          ∧ (userStage m trim u).z =
              roundHalfAway 30 (m.z.x.toInt * u.x + m.z.y.toInt * u.y + m.z.z.toInt * u.z + trim.z.toInt * 2 ^ 30)

/-- Each of the six calibrated values is the stages' exact result, held at ±(2^31 − 1), and the clip indication says
whether any was held; −2^31 is never published (R74, R75). -/
def Obligations.CalibratedValuesAreClippedToTheirRange : Prop :=
  ∀ (f : FactoryRecord) (u : UserRecord) (frame : SampleFrame) (g a : Triple Int),
    g = userStage u.gyroAlign u.gyroTrim (factoryStage f.gyroMatrix f.gyroBias frame.gyro) →
      a = userStage u.accelAlign u.accelTrim (factoryStage f.accelMatrix f.accelBias frame.accel) →
        (∀ e ∈
            [(g.x, (calibrate f u frame).gyro.x), (g.y, (calibrate f u frame).gyro.y),
              (g.z, (calibrate f u frame).gyro.z), (a.x, (calibrate f u frame).accel.x),
              (a.y, (calibrate f u frame).accel.y), (a.z, (calibrate f u frame).accel.z)],
            (2147483647 < e.1 → e.2.toInt = 2147483647) ∧ (e.1 < -2147483647 → e.2.toInt = -2147483647)
              ∧ (-2147483647 ≤ e.1 → e.1 ≤ 2147483647 → e.2.toInt = e.1))
          ∧ ((calibrate f u frame).clipped = true ↔
              ∃ v ∈ [g.x, g.y, g.z, a.x, a.y, a.z], 2147483647 < v ∨ v < -2147483647)

/-- CAL_READ makes its checks in order and returns the factory record with its validity, or the active or the staged user
record with the active epoch, and changes nothing (R76, R77, R78). -/
def Obligations.CalReadReturnsTheRecordNamed : Prop :=
  ∀ (r : Req) (head form : Byte) (s : State), Ready r .calRead s = true →
    ((headOf head = none ∨ 2 < form.toNat) →
        exec (.calRead r head form) s = .next (s.reported r .calRead .outOfRange .none))
      ∧ ∀ x, headOf head = some x →
          (form = 0#8 →
              exec (.calRead r head form) s =
                .next (s.reported r .calRead .ok
                  (.calFactory x (s.store.factoryValidity.get x = .valid)
                    ((s.store.factory.get x).getD FactoryRecord.zero))))
            ∧ (form = 1#8 →
              exec (.calRead r head form) s =
                .next (s.reported r .calRead .ok (.calUser x s.cfg.epoch (s.cfg.active.user.get x))))
            ∧ (form = 2#8 →
              (∀ l, s.cfg.lease = some l → l.holder = r.port →
                  exec (.calRead r head form) s =
                    .next (s.reported r .calRead .ok (.calUser x s.cfg.epoch (l.staged.user.get x))))
                ∧ (s.cfg.holds r.port = false →
                  exec (.calRead r head form) s = .next (s.reported r .calRead .notHolder .none)))

/-! ## History -/

/-- A history request acts on its own port's reader, on no other and not on the ring: HIST_READ delivers the records
from the cursor onward and moves it past them, HIST_PEEK returns the newest record and moves nothing, HIST_SEEK and
HIST_WATERMARK set the cursor and the watermark, and each evaluates the watermark indication (R31 to R33, R35 to R37). -/
def Obligations.HistoryRequestsServeThePortsOwnReader : Prop :=
  ∀ (r : Req) (s : State) (q : Reader) (state : CursorState), s.RingConsistent → q = s.hist.readers[r.port] →
    state = ⟨q.cursor, s.hist.next - q.cursor, q.watermark, q.skipTotal⟩ →
      (∀ max : Byte, Ready r .histRead s = true →
          ((max = 0#8 ∨ 4 < max.toNat) →
              exec (.histRead r max) s = .next (s.reported r .histRead .outOfRange (.cursor state)))
            ∧ ∀ k : Nat, 1 ≤ max.toNat → max.toNat ≤ 4 → k = min max.toNat (s.hist.next - q.cursor).toNat →
                ∃ records : List Publication,
                  records.length = k
                    ∧ (∀ j : Fin records.length,
                        (records[j]).number = q.cursor + BitVec.ofNat 48 j ∧ records[j] ∈ s.hist.records)
                    ∧ exec (.histRead r max) s =
                        .next (((s.served r .histRead).modifyReader r.port fun _ =>
                            ({ q with cursor := q.cursor + BitVec.ofNat 48 k, skippedSinceRead := 0#16 } : Reader).evaluate
                              s.hist.next).replied
                          r .histRead (if k = 0 then .empty else .ok)
                          (.histRead records q.skippedSinceRead
                            ⟨q.cursor + BitVec.ofNat 48 k, s.hist.next - (q.cursor + BitVec.ofNat 48 k), q.watermark,
                              q.skipTotal⟩)))
        ∧ (Ready r .histPeek s = true →
            (s.hist.records = [] → exec (.histPeek r) s = .next (s.reported r .histPeek .empty (.cursor state)))
              ∧ ∀ newest, s.hist.records.getLast? = some newest →
                  exec (.histPeek r) s = .next (s.reported r .histPeek .ok (.histPeek state newest)))
        ∧ (∀ (form : Byte) (n : PubNum), Ready r .histSeek s = true →
            (∀ target : PubNum,
                ((form = 0#8 ∧ target = s.hist.next - BitVec.ofNat 48 s.hist.records.length)
                    ∨ (form = 1#8 ∧ s.hist.records ≠ [] ∧ target = s.hist.next - 1)
                    ∨ (form = 1#8 ∧ s.hist.records = [] ∧ target = s.hist.next) ∨ (form = 2#8 ∧ target = s.hist.next)
                    ∨ (form = 3#8 ∧ target = n ∧ (s.hist.next - n).toNat ≤ s.hist.records.length)) →
                  exec (.histSeek r form n) s =
                    .next (((s.served r .histSeek).modifyReader r.port fun _ =>
                        ({ q with cursor := target } : Reader).evaluate s.hist.next).replied
                      r .histSeek .ok (.cursor ⟨target, s.hist.next - target, q.watermark, q.skipTotal⟩)))
              ∧ ((3 < form.toNat ∨ (form = 3#8 ∧ s.hist.records.length < (s.hist.next - n).toNat)) →
                exec (.histSeek r form n) s = .next (s.reported r .histSeek .outOfRange (.cursor state))))
        ∧ (∀ value : BitVec 16, Ready r .histWatermark s = true →
            (1024 < value.toNat →
                exec (.histWatermark r value) s = .next (s.reported r .histWatermark .outOfRange (.cursor state)))
              ∧ (value.toNat ≤ 1024 →
                exec (.histWatermark r value) s =
                  .next (((s.served r .histWatermark).modifyReader r.port fun _ =>
                      ({ q with watermark := value } : Reader).evaluate s.hist.next).replied
                    r .histWatermark .ok (.cursor ⟨q.cursor, s.hist.next - q.cursor, value, q.skipTotal⟩))))
        ∧ ∀ (o : Reader) (next : PubNum),
            (o.evaluate next).reached = (o.watermark ≠ 0#16 ∧ o.watermark.toNat ≤ (next - o.cursor).toNat : Bool)
              ∧ { o.evaluate next with reached := o.reached } = o

/-- An append places the record at the newest end, advances next and evaluates every watermark; on a full ring it drops
the oldest record, hands its number to DELTA, and moves on and charges each port whose cursor named it (R26, R29, R31). -/
def Obligations.AnAppendPlacesOneRecordAndDropsTheOldestOfAFullRing : Prop :=
  ∀ (p : Publication) (rest : List Publication) (s : State), s.power = .running → s.arrivals.appends = p :: rest →
    (s.hist.records.length < 1024 →
        exec .append s =
          .next { s with
            arrivals := { s.arrivals with appends := rest },
            hist :=
              ⟨s.hist.records ++ [p], s.hist.next + 1, s.hist.readers.map fun q => q.evaluate (s.hist.next + 1)⟩ })
      ∧ ∀ oldest : PubNum, s.hist.records.length = 1024 → oldest = s.hist.next - 1024#48 →
          ∃ t,
            exec .append s = .next t ∧ t.hist.records = s.hist.records.tail ++ [p] ∧ t.hist.next = s.hist.next + 1
              ∧ (∀ (n : Port) (q : Reader), q = s.hist.readers[n] →
                (q.cursor = oldest →
                    t.hist.readers[n] =
                      ({ q with
                          cursor := oldest + 1, skipTotal := satInc q.skipTotal,
                          skippedSinceRead := satInc q.skippedSinceRead } : Reader).evaluate
                        (s.hist.next + 1)
                      ∧ ∀ c : Cond, c ∈ t.cond.sets[n] ↔ c = .ringOverrun ∨ c ∈ s.cond.sets[n])
                  ∧ (q.cursor ≠ oldest →
                    t.hist.readers[n] = q.evaluate (s.hist.next + 1) ∧ t.cond.sets[n] = s.cond.sets[n]))
              ∧ (t.cond.counts[Cond.ringOverrun.index]).toNat =
                  min
                    ((s.cond.counts[Cond.ringOverrun.index]).toNat
                      + s.hist.readers.toList.countP fun q => q.cursor = oldest)
                    65535
              ∧ (∀ c : Cond, c ≠ .ringOverrun → t.cond.counts[c.index] = s.cond.counts[c.index])
              ∧ t.arrivals = { s.arrivals with appends := rest, drops := s.arrivals.drops ++ [oldest] }
              ∧ { t with hist := s.hist, cond := s.cond, arrivals := s.arrivals } = s

/-! ## Delta contexts -/

/-- DELTA_OPEN makes the checks of R15 in order; an open that passes them takes the lowest FREE entry, OPEN from the
history's next, or BACKFILLING from a number that the history holds (R1, R2, R15). A NEXT that comes after the arrival of
next starts one past the most recent arrival (R4; that reading, when more than one has arrived, is log 14). -/
def Obligations.DeltaOpenTakesTheLowestFreeEntry : Prop :=
  ∀ (r : Req) (label period : BitVec 16) (form : Byte) (number : PubNum) (s : State), Ready r .deltaOpen s = true →
    (1 < form.toNat →
        exec (.deltaOpen r label period form number) s = .next (s.reported r .deltaOpen .outOfRange .none))
      ∧ (form.toNat ≤ 1 → (∀ n : CtxNum, s.delta.contexts[n] ≠ none) →
        exec (.deltaOpen r label period form number) s = .next (s.reported r .deltaOpen .noContext .none))
      ∧ ∀ n : CtxNum, form.toNat ≤ 1 → s.delta.contexts[n] = none →
          (∀ m : CtxNum, m < n → s.delta.contexts[m] ≠ none) →
            (4 ≤ s.delta.owned r.port →
                exec (.deltaOpen r label period form number) s = .next (s.reported r .deltaOpen .portLimit .none))
              ∧ (s.delta.owned r.port < 4 → form = 0#8 →
                ∀ start : PubNum,
                  (((∀ l, s.delta.lastArrival = some l → 2 ^ 47 ≤ (l - s.hist.next).toNat) ∧ start = s.hist.next)
                      ∨ ∃ l, s.delta.lastArrival = some l ∧ (l - s.hist.next).toNat < 2 ^ 47 ∧ start = l + 1) →
                    exec (.deltaOpen r label period form number) s =
                      .next (((s.served r .deltaOpen).setContext n (some
                          { state := .opened, owner := r.port, label := label, period := period, openTag := r.tag,
                            sequence := 0#16, start := start, position := start, acc := Accumulation.empty,
                            queue := [] })).replied
                        r .deltaOpen .ok (.deltaOpened n start)))
              ∧ (s.delta.owned r.port < 4 → form = 1#8 →
                ((number - (s.hist.next - BitVec.ofNat 48 s.hist.records.length)).toNat < s.hist.records.length →
                    exec (.deltaOpen r label period form number) s =
                      .next (((s.served r .deltaOpen).setContext n (some
                          { state := .backfilling, owner := r.port, label := label, period := period,
                            openTag := r.tag, sequence := 0#16, start := number, position := number,
                            acc := Accumulation.empty, queue := [] })).replied
                        r .deltaOpen .accepted (.deltaOpened n number)))
                  ∧ (s.hist.records.length ≤ (number - (s.hist.next - BitVec.ofNat 48 s.hist.records.length)).toNat →
                    exec (.deltaOpen r label period form number) s =
                      .next (s.reported r .deltaOpen .outOfRange .none)))

/-- The requests on a context make the checks of R14 in order, and then DELTA_TAKE returns a MANUAL record, DELTA_COLLECT
the oldest queued one, DELTA_CLOSE a CLOSING record with the entry freed, and DELTA_STATUS a snapshot; a record carries
the accumulation, or nothing but the skipped count when it is empty (R7, R14, R16 to R19). -/
def Obligations.DeltaRequestsActOnTheirOwnContext : Prop :=
  (∀ (r : Req) (ctx discard : Byte) (s : State) (k : RequestKind) (c : Instr),
      (k, c) ∈
          [(.deltaTake, .deltaTake r ctx), (.deltaCollect, .deltaCollect r ctx),
            (.deltaClose, .deltaClose r ctx discard), (.deltaStatus, .deltaStatus r ctx)] →
        Ready r k s = true →
          (7 < ctx.toNat → exec c s = .next (s.reported r k .outOfRange .none))
            ∧ ∀ n : CtxNum, ctx.toNat = n →
                (s.delta.contexts[n] = none → exec c s = .next (s.reported r k .noContext .none))
                  ∧ ∀ x, s.delta.contexts[n] = some x → x.owner ≠ r.port →
                      exec c s = .next (s.reported r k .notOwner .none))
    ∧ (∀ (r : Req) (ctx discard : Byte) (s : State) (n : CtxNum) (x : Context),
        ctx.toNat = n → s.delta.contexts[n] = some x → x.owner = r.port →
          (Ready r .deltaTake s = true →
              (x.state = .backfilling → exec (.deltaTake r ctx) s = .next (s.reported r .deltaTake .busy .none))
                ∧ (x.state = .opened →
                  exec (.deltaTake r ctx) s =
                    .next (((s.served r .deltaTake).setContext n
                        (some { x with sequence := x.sequence + 1, acc := Accumulation.empty })).replied
                      r .deltaTake .ok (.deltaTaken (x.recordOf n .manual)))))
            ∧ (Ready r .deltaCollect s = true →
              (x.queue = [] → exec (.deltaCollect r ctx) s = .next (s.reported r .deltaCollect .empty .none))
                ∧ ∀ d rest, x.queue = d :: rest →
                    exec (.deltaCollect r ctx) s =
                      .next (((s.served r .deltaCollect).setContext n (some { x with queue := rest })).replied
                        r .deltaCollect .ok (.deltaCollected rest.length d)))
            ∧ (Ready r .deltaClose s = true →
              (x.queue ≠ [] → discard = 0#8 →
                  exec (.deltaClose r ctx discard) s = .next (s.reported r .deltaClose .queueNotEmpty .none))
                ∧ ((x.queue = [] ∨ discard ≠ 0#8) →
                  exec (.deltaClose r ctx discard) s =
                    .next (((s.served r .deltaClose).setContext n none).replied r .deltaClose .ok
                      (.deltaClosed x.queue.length (x.recordOf n .closing)))))
            ∧ (Ready r .deltaStatus s = true →
              exec (.deltaStatus r ctx) s =
                .next (s.reported r .deltaStatus .ok
                  (.deltaStatus
                    { state := x.state, label := x.label, period := x.period, sequence := x.sequence, start := x.start,
                      position := x.position, depth := x.queue.length,
                      first := if x.acc.count = 0#32 then none else x.acc.first,
                      last := if x.acc.count = 0#32 then none else x.acc.last, count := x.acc.count,
                      voids := x.acc.voids, skipped := x.acc.skipped, flags := x.acc.flags }))))
    ∧ ∀ (x : Context) (n : CtxNum) (kind : RecordKind),
        (x.acc.count ≠ 0#32 →
            x.recordOf n kind =
              { ctx := n, kind := kind, label := x.label, sequence := x.sequence, first := x.acc.first,
                last := x.acc.last, count := x.acc.count, voids := x.acc.voids, skipped := x.acc.skipped,
                startTime := x.acc.startTime, endTime := x.acc.endTime, angle := x.acc.angle,
                velocity := x.acc.velocity, total := x.acc.total, flags := x.acc.flags })
          ∧ (x.acc.count = 0#32 →
            x.recordOf n kind =
              { ctx := n, kind := kind, label := x.label, sequence := x.sequence, first := none, last := none,
                count := 0#32, voids := 0#32, skipped := x.acc.skipped, startTime := 0#48, endTime := 0#48,
                angle := ⟨0#64, 0#64, 0#64⟩, velocity := ⟨0#64, 0#64, 0#64⟩, total := 0#48,
                flags :=
                  ⟨false, false, false, false, false, false, false, false, false, false, false⟩ })

/-- A publication is integrated into its accumulation: each product is added exactly, a sum out of range is held at its
limit for the rest of the accumulation, a VOID publication moves no sum, and flags are merged (R5, R6). -/
def Obligations.IntegrationIsExactUntilASumIsHeld : Prop :=
  (∀ (sum : BitVec 64) (value : BitVec 32) (d : Micros),
      addToSum sum true value d = (sum, true)
        ∧ (∀ exact : Int, exact = sum.toInt + value.toInt * d.toNat →
          (2 ^ 63 - 1 < exact →
              ((addToSum sum false value d).1).toInt = 2 ^ 63 - 1 ∧ (addToSum sum false value d).2 = true)
            ∧ (exact < -(2 ^ 63 - 1) →
              ((addToSum sum false value d).1).toInt = -(2 ^ 63 - 1) ∧ (addToSum sum false value d).2 = true)
            ∧ (-(2 ^ 63 - 1) ≤ exact → exact ≤ 2 ^ 63 - 1 →
              ((addToSum sum false value d).1).toInt = exact ∧ (addToSum sum false value d).2 = false)))
    ∧ ∀ (a : Accumulation) (n : BitVec 16) (p : Publication) (b : Accumulation), b = a.add n p →
        b.first = (if a.count = 0#32 then some p.number else a.first) ∧ b.last = some p.number
          ∧ b.count = a.count + 1 ∧ b.voids = (if p.flags.void then a.voids + 1 else a.voids) ∧ b.skipped = a.skipped
          ∧ b.startTime = (if a.count = 0#32 then p.time - p.interval else a.startTime) ∧ b.endTime = p.time
          ∧ b.lastEpoch = some p.epoch
          ∧ (p.flags.void = true →
            b.angle = a.angle ∧ b.velocity = a.velocity ∧ b.angleHeld = a.angleHeld
              ∧ b.velocityHeld = a.velocityHeld)
          ∧ (p.flags.void = false →
            (b.angle.x, b.angleHeld.x) = addToSum a.angle.x a.angleHeld.x p.gyro.x p.interval
              ∧ (b.angle.y, b.angleHeld.y) = addToSum a.angle.y a.angleHeld.y p.gyro.y p.interval
              ∧ (b.angle.z, b.angleHeld.z) = addToSum a.angle.z a.angleHeld.z p.gyro.z p.interval
              ∧ (b.velocity.x, b.velocityHeld.x) = addToSum a.velocity.x a.velocityHeld.x p.accel.x p.interval
              ∧ (b.velocity.y, b.velocityHeld.y) = addToSum a.velocity.y a.velocityHeld.y p.accel.y p.interval
              ∧ (b.velocity.z, b.velocityHeld.z) = addToSum a.velocity.z a.velocityHeld.z p.accel.z p.interval)
          ∧ (a.totalHeld = true → b.total = a.total ∧ b.totalHeld = true)
          ∧ (a.totalHeld = false → a.total.toNat + p.interval.toNat ≤ 2 ^ 48 - 1 →
              b.total.toNat = a.total.toNat + p.interval.toNat ∧ b.totalHeld = false)
          ∧ (a.totalHeld = false → 2 ^ 48 - 1 < a.total.toNat + p.interval.toNat →
              b.total.toNat = 2 ^ 48 - 1 ∧ b.totalHeld = true)
          ∧ b.flags =
              { heldSeen := a.flags.heldSeen || p.flags.held, voidSeen := a.flags.voidSeen || p.flags.void,
                suspectSeen := a.flags.suspectSeen || p.flags.suspect,
                saturatedSeen := a.flags.saturatedSeen || p.flags.saturated,
                sourceChangeSeen := a.flags.sourceChangeSeen || p.flags.sourceChange,
                epochSpan := a.flags.epochSpan || (a.count ≠ 0#32 && a.lastEpoch ≠ some p.epoch),
                syncFallbackSeen := a.flags.syncFallbackSeen || p.flags.syncFallback,
                sumSaturated :=
                  a.flags.sumSaturated || b.angleHeld.x || b.angleHeld.y || b.angleHeld.z || b.velocityHeld.x
                    || b.velocityHeld.y || b.velocityHeld.z || b.totalHeld,
                historyGap := a.flags.historyGap,
                partialStart :=
                  a.flags.partialStart || (a.count = 0#32 && n ≠ 0#16 && p.number.toNat % n.toNat ≠ 0),
                takeDeferred := a.flags.takeDeferred }

/-- After a record is integrated or skipped, a boundary, and then the count limit, puts an AUTO record into a queue with
room; a full queue defers the boundary, and at the limit it closes the context (R8 to R10, R13). A boundary is tested at
the number's integer value plus one, also at the wrap of the counter (log 16). -/
def Obligations.AutoTakesFollowTheirBoundariesAndTheCountLimit : Prop :=
  (∀ (c : Context) (n : CtxNum) (p : Publication),
      c.take n p = (({ c with acc := c.acc.add c.period p, position := c.position + 1 } : Context).boundary n p.number).limit n)
    ∧ (∀ (c : Context) (n : CtxNum),
        c.skip n =
          (({ c with
              position := c.position + 1,
              acc :=
                { c.acc with
                  skipped := c.acc.skipped + 1, flags := { c.acc.flags with historyGap := true } } } : Context).boundary
            n c.position).limit n)
    ∧ (∀ (c : Context) (n : CtxNum) (passed : PubNum),
        ((c.period = 0#16 ∨ ¬ c.period.toNat ∣ passed.toNat + 1) → c.boundary n passed = c)
          ∧ (c.period ≠ 0#16 → c.period.toNat ∣ passed.toNat + 1 →
            (c.queue.length < 4 →
                c.boundary n passed =
                  { c with
                    sequence := c.sequence + 1, acc := Accumulation.empty, queue := c.queue ++ [c.recordOf n .auto] })
              ∧ (4 ≤ c.queue.length →
                c.boundary n passed =
                  { c with acc := { c.acc with flags := { c.acc.flags with takeDeferred := true } } })))
    ∧ ∀ (c : Context) (n : CtxNum),
        (c.acc.count.toNat + c.acc.skipped.toNat < 2 ^ 32 - 1 → c.limit n = .keeps c)
          ∧ (2 ^ 32 - 1 ≤ c.acc.count.toNat + c.acc.skipped.toNat →
            (c.queue.length < 4 →
                c.limit n =
                  .keeps
                    { c with
                      sequence := c.sequence + 1, acc := Accumulation.empty,
                      queue := c.queue ++ [c.recordOf n .auto] })
              ∧ (4 ≤ c.queue.length →
                c.limit n = .closes c.owner c.openTag (c.recordOf n .closing) c.queue.length))

/-- The arrival of a publication at DELTA, and of a dropped record number, acts on each context by itself: the OPEN ones
whose position it is take it, the BACKFILLING ones whose position was dropped skip it, and the others stay as they are; a
context closed at its count limit goes FREE and its owner is sent FAILED with the CLOSING record (R4, R8 to R10, R13). -/
def Obligations.ArrivalsActOnEachContextByItself : Prop :=
  ∀ (s : State) (reached : Context → Bool) (entry : CtxNum → Context → Entry) (c : Instr) (held : State),
    s.power = .running →
      ((∃ p rest,
            s.arrivals.atDelta = p :: rest ∧ c = .publicationAtDelta
              ∧ reached = (fun x : Context => decide (x.state = .opened ∧ x.position = p.number))
              ∧ entry = (fun n x => x.take n p)
              ∧ held =
                  { s with
                    arrivals := { s.arrivals with atDelta := rest },
                    delta := { s.delta with lastArrival := some p.number } })
          ∨ ∃ d rest,
              s.arrivals.drops = d :: rest ∧ c = .dropAtDelta
                ∧ reached = (fun x : Context => decide (x.state = .backfilling ∧ x.position = d))
                ∧ entry = (fun n x => x.skip n)
                ∧ held = { s with arrivals := { s.arrivals with drops := rest } }) →
        ∃ contexts completions,
          exec c s =
              .next { held with
                delta := { held.delta with contexts := contexts },
                arrivals := { held.arrivals with completions := s.arrivals.completions ++ completions } }
            ∧ (∀ n : CtxNum,
                (s.delta.contexts[n] = none → contexts[n] = none)
                  ∧ ∀ x, s.delta.contexts[n] = some x →
                      (reached x = false → contexts[n] = some x)
                        ∧ (reached x = true →
                          (∀ y, entry n x = .keeps y → contexts[n] = some y)
                            ∧ ∀ owner tag record discarded, entry n x = .closes owner tag record discarded →
                                contexts[n] = none))
            ∧ completions =
                ([0, 1, 2, 3, 4, 5, 6, 7] : List CtxNum).filterMap fun n =>
                  match s.delta.contexts[n] with
                  | none => none
                  | some x =>
                    if reached x then
                      match entry n x with
                      | .keeps _ => none
                      | .closes owner tag record discarded =>
                        some ⟨owner, Reply.completion .deltaOpen tag .failed (.deltaClosed discarded record)⟩
                    else none

/-- A walk step integrates the record at its position, or skips one that is no longer present, and a walk that reaches the
history's next becomes OPEN with DONE unless the arrival there has been taken (R11, R12). Any other context stays.
How an arrival is told to have been taken is the model's reading, log 14; that a step changes nothing on an entry that is FREE
or does not walk is its choice, log 3. -/
def Obligations.AWalkStepTakesOrSkipsOneRecordAndEndsAtNext : Prop :=
  ∀ (n : CtxNum) (s : State), s.power = .running →
    (s.delta.contexts[n] = none → exec (.walkStep n) s = .next s)
      ∧ ∀ x, s.delta.contexts[n] = some x →
          ((x.state = .opened ∨ x.position = s.hist.next) → exec (.walkStep n) s = .next s)
            ∧ ∀ e : Entry, x.state = .backfilling → x.position ≠ s.hist.next →
                ((∃ p : Publication,
                      (x.position - s.hist.oldest).toNat < s.hist.records.length
                        ∧ s.hist.records[(x.position - s.hist.oldest).toNat]? = some p ∧ e = x.take n p)
                    ∨ (s.hist.records.length ≤ (x.position - s.hist.oldest).toNat ∧ e = x.skip n)) →
                  (∀ owner tag record discarded, e = .closes owner tag record discarded →
                      exec (.walkStep n) s =
                        .next ((s.setContext n none).complete owner
                          (Reply.completion .deltaOpen tag .failed (.deltaClosed discarded record))))
                    ∧ ∀ y, e = .keeps y →
                        ((y.position = s.hist.next →
                            (∀ l, s.delta.lastArrival = some l → 2 ^ 47 ≤ (l - s.hist.next).toNat) →
                              exec (.walkStep n) s =
                                .next ((s.setContext n (some { y with state := .opened })).complete y.owner
                                  (Reply.completion .deltaOpen y.openTag .done
                                    (.deltaWalked n y.start y.position y.acc.count y.acc.skipped y.queue.length))))
                          ∧ ((y.position ≠ s.hist.next
                                ∨ ∃ l, s.delta.lastArrival = some l ∧ (l - s.hist.next).toNat < 2 ^ 47) →
                            exec (.walkStep n) s = .next (s.setContext n (some y))))

/-- No command loses or doubles a publication of a context that stays: either its position and its counts advance
together, by one at most, or its position stands and one record leaves it (R21). Every context stays below the count
limit (R10). -/
def Obligations.EveryPublicationOfAContextIsCountedOnce : Prop :=
  ∀ (c : Instr) (s t : State), (∀ (n : CtxNum) (x : Context), s.delta.contexts[n] = some x → x.belowLimit = true) →
    exec c s = .next t →
      (∀ (n : CtxNum) (y : Context), t.delta.contexts[n] = some y → y.belowLimit = true)
        ∧ ∀ (n : CtxNum) (x y : Context), s.delta.contexts[n] = some x → t.delta.contexts[n] = some y →
            y.owner = x.owner ∧ y.start = x.start ∧ y.period = x.period
              ∧ ((y.position = x.position ∧ y.counted = x.counted)
                ∨ (y.position = x.position + 1 ∧ y.counted = x.counted + 1)
                ∨ ∃ record : DeltaRecord,
                    (record = x.recordOf n .manual ∨ x.queue.head? = some record) ∧ y.position = x.position
                      ∧ y.counted + record.counted = x.counted)

/-! ## The configuration lease -/

/-- LEASE_ACQUIRE takes the first case of R123 that fits; a release cancels a wait or ends the lease, the counter's reaching
the expiry ends it with LEASE_EXPIRED on its holder, and the lease left FREE passes at once to the oldest waiter, who is
sent GRANTED with a fresh staged image (R123 to R127). That an expiry stays due for 2^47 µs is the model's choice, log 26, and that the expiry changes nothing before its time or
without a lease, log 3. -/
def Obligations.TheLeaseHasItsCasesAndPassesToTheOldestWaiter : Prop :=
  (∀ (r : Req) (wait : Byte) (period : BitVec 16) (s : State), Ready r .leaseAcquire s = true →
      ((period.toNat < 100 ∨ 60000 < period.toNat) →
          exec (.leaseAcquire r wait period) s = .next (s.reported r .leaseAcquire .outOfRange .none))
        ∧ (100 ≤ period.toNat → period.toNat ≤ 60000 →
          (s.cfg.lease = none →
              exec (.leaseAcquire r wait period) s =
                .next (({ s.served r .leaseAcquire with
                    cfg :=
                      { s.cfg with
                        lease :=
                          some
                            ⟨r.port, s.tb.counter + BitVec.ofNat 48 (1000 * period.toNat), s.cfg.active⟩ } } : State).replied
                  r .leaseAcquire .granted (.leasePeriod period s.cfg.epoch)))
            ∧ (∀ l, s.cfg.lease = some l → l.holder = r.port →
              exec (.leaseAcquire r wait period) s =
                .next (({ s.served r .leaseAcquire with
                    cfg :=
                      { s.cfg with
                        lease :=
                          some
                            { l with
                              expiry :=
                                s.tb.counter + BitVec.ofNat 48 (1000 * period.toNat) } } } : State).replied
                  r .leaseAcquire .renewed (.leasePeriod period s.cfg.epoch)))
            ∧ ∀ l, s.cfg.lease = some l → l.holder ≠ r.port →
                (∀ before w after, s.cfg.waiters = before ++ w :: after → w.port = r.port →
                    r.port ∉ before.map Waiter.port →
                      exec (.leaseAcquire r wait period) s =
                        .next (s.reported r .leaseAcquire .alreadyQueued (.leaseQueued l.holder (before.length + 1))))
                  ∧ (r.port ∉ s.cfg.waiters.map Waiter.port →
                    (wait = 0#8 →
                        exec (.leaseAcquire r wait period) s =
                          .next (s.reported r .leaseAcquire .heldElsewhere (.leaseHolder l.holder)))
                      ∧ (wait ≠ 0#8 →
                        exec (.leaseAcquire r wait period) s =
                          .next (({ s.served r .leaseAcquire with
                              cfg :=
                                { s.cfg with
                                  waiters := s.cfg.waiters ++ [⟨r.port, r.tag, period⟩] } } : State).replied
                            r .leaseAcquire .queued (.leaseQueued l.holder (s.cfg.waiters.length + 1)))))))
    ∧ (∀ (r : Req) (s : State), Ready r .leaseRelease s = true →
        (s.cfg.holds r.port = true →
            exec (.leaseRelease r) s =
              .next ((s.served r .leaseRelease).endLease.replied r .leaseRelease .released .none))
          ∧ (s.cfg.holds r.port = false → r.port ∈ s.cfg.waiters.map Waiter.port →
            exec (.leaseRelease r) s =
              .next (({ s.served r .leaseRelease with
                  cfg :=
                    { s.cfg with
                      waiters := s.cfg.waiters.filter fun w => w.port ≠ r.port } } : State).replied
                r .leaseRelease .cancelled .none))
          ∧ (s.cfg.holds r.port = false → r.port ∉ s.cfg.waiters.map Waiter.port →
            exec (.leaseRelease r) s = .next (s.reported r .leaseRelease .notHolder .none)))
    ∧ (∀ (s : State) (l : Lease), s.power = .running → s.cfg.lease = some l →
        (s.since l.expiry < 2 ^ 47 → exec .leaseExpiry s = .next (s.raisePort .leaseExpired l.holder).endLease)
          ∧ (2 ^ 47 ≤ s.since l.expiry → exec .leaseExpiry s = .next s))
    ∧ (∀ s : State, s.power = .running → s.cfg.lease = none → exec .leaseExpiry s = .next s)
    ∧ ∀ s : State,
        (s.cfg.waiters = [] → s.endLease = { s with cfg := { s.cfg with lease := none } })
          ∧ ∀ w rest, s.cfg.waiters = w :: rest →
              s.endLease =
                { s with
                  cfg :=
                    { s.cfg with
                      lease :=
                        some ⟨w.port, s.tb.counter + BitVec.ofNat 48 (1000 * w.period.toNat), s.cfg.active⟩,
                      waiters := rest },
                  arrivals :=
                    { s.arrivals with
                      completions :=
                        s.arrivals.completions
                          ++ [⟨w.port, Reply.completion .leaseAcquire w.tag .granted
                              (.leasePeriod w.period s.cfg.epoch)⟩] } }

/-- The staging requests are for the holder alone; each examines its fields in their order and refuses with the index of
the first one out of range, nothing staged; one that passes changes its items of the staged image and no other, and
STAGE_READ changes nothing (R69, R131 to R135). -/
def Obligations.StagingChangesItsItemsOfTheStagedImageAlone : Prop :=
  (∀ (r : Req) (s : State) (c : Instr) (k : RequestKind) (payload : List Byte),
      requestOf c = some (r, k, payload) →
        k ∈ [.stageCal, .stageSource, .stageThresholds, .stageTiming, .stageRead, .stageDiscard] →
          Ready r k s = true → s.cfg.holds r.port = false → exec c s = .next (s.reported r k .notHolder .none))
    ∧ ∀ (r : Req) (s : State) (l : Lease) (staged : RequestKind → Image → State),
        s.cfg.lease = some l → l.holder = r.port →
          (∀ k image,
              staged k image =
                ({ s.served r k with
                    cfg := { s.cfg with lease := some { l with staged := image } } } : State).replied
                  r k .ok (.epoch s.cfg.epoch)) →
            (∀ (head group : Byte) (v : Mat3 (BitVec 32)), Ready r .stageCal s = true →
                (1 < head.toNat →
                    exec (.stageCal r head group v) s = .next (s.reported r .stageCal .outOfRange (.fieldIndex 1)))
                  ∧ ∀ x, headOf head = some x →
                      (3 < group.toNat →
                          exec (.stageCal r head group v) s =
                            .next (s.reported r .stageCal .outOfRange (.fieldIndex 2)))
                        ∧ ∀ (limit : Nat) (values : List (BitVec 32)) (u : UserRecord),
                            ((group = 0#8 ∧ limit = 6553600 ∧ values = [v.x.x, v.x.y, v.x.z]
                                  ∧ u = { l.staged.user.get x with gyroTrim := v.x })
                                ∨ (group = 1#8 ∧ limit = 655360 ∧ values = [v.x.x, v.x.y, v.x.z]
                                  ∧ u = { l.staged.user.get x with accelTrim := v.x })
                                ∨ (group = 2#8 ∧ limit = 2147483647
                                  ∧ values = [v.x.x, v.x.y, v.x.z, v.y.x, v.y.y, v.y.z, v.z.x, v.z.y, v.z.z]
                                  ∧ u = { l.staged.user.get x with gyroAlign := v })
                                ∨ (group = 3#8 ∧ limit = 2147483647
                                  ∧ values = [v.x.x, v.x.y, v.x.z, v.y.x, v.y.y, v.y.z, v.z.x, v.z.y, v.z.z]
                                  ∧ u = { l.staged.user.get x with accelAlign := v })) →
                              ((∀ w ∈ values, w.toInt.natAbs ≤ limit) →
                                  exec (.stageCal r head group v) s =
                                    .next (staged .stageCal { l.staged with user := l.staged.user.set x u }))
                                ∧ ∀ before w after, values = before ++ w :: after →
                                    (∀ b ∈ before, b.toInt.natAbs ≤ limit) → limit < w.toInt.natAbs →
                                      exec (.stageCal r head group v) s =
                                        .next (s.reported r .stageCal .outOfRange (.fieldIndex (before.length + 3))))
              ∧ (∀ (mode : Byte) (h : BitVec 16), Ready r .stageSource s = true →
                (3 < mode.toNat →
                    exec (.stageSource r mode h) s = .next (s.reported r .stageSource .outOfRange (.fieldIndex 1)))
                  ∧ ∀ m,
                      (mode, m) ∈
                          [(0#8, SourceMode.aOnly), (1#8, .bOnly), (2#8, .preferA), (3#8, .preferB)] →
                        exec (.stageSource r mode h) s =
                          .next (staged .stageSource { l.staged with mode := m, holdOff := h }))
              ∧ (∀ gyro accel : BitVec 32, Ready r .stageThresholds s = true →
                (2147483647 < gyro.toNat →
                    exec (.stageThresholds r gyro accel) s =
                      .next (s.reported r .stageThresholds .outOfRange (.fieldIndex 1)))
                  ∧ (gyro.toNat ≤ 2147483647 → 2147483647 < accel.toNat →
                    exec (.stageThresholds r gyro accel) s =
                      .next (s.reported r .stageThresholds .outOfRange (.fieldIndex 2)))
                  ∧ (gyro.toNat ≤ 2147483647 → accel.toNat ≤ 2147483647 →
                    exec (.stageThresholds r gyro accel) s =
                      .next (staged .stageThresholds
                        { l.staged with gyroThreshold := gyro, accelThreshold := accel })))
              ∧ (∀ (rate : BitVec 16) (mode : Byte) (scale : BitVec 16), Ready r .stageTiming s = true →
                (rate.toNat ∉ [500, 1000, 2000, 4000] →
                    exec (.stageTiming r rate mode scale) s =
                      .next (s.reported r .stageTiming .outOfRange (.fieldIndex 1)))
                  ∧ (rate.toNat ∈ [500, 1000, 2000, 4000] → 2 < mode.toNat →
                    exec (.stageTiming r rate mode scale) s =
                      .next (s.reported r .stageTiming .outOfRange (.fieldIndex 2)))
                  ∧ ∀ g m,
                      (rate, g) ∈ [(500#16, Rate.r500), (1000#16, .r1000), (2000#16, .r2000), (4000#16, .r4000)] →
                        (mode, m) ∈ [(0#8, SyncMode.free), (1#8, .direct), (2#8, .scaled)] →
                          exec (.stageTiming r rate mode scale) s =
                            .next (staged .stageTiming { l.staged with timing := ⟨g, m, scale⟩ }))
              ∧ (Ready r .stageRead s = true →
                exec (.stageRead r) s =
                  .next (s.reported r .stageRead .ok (.stagedImage l.staged s.cfg.epoch (l.staged.diff s.cfg.active))))
              ∧ (Ready r .stageDiscard s = true →
                exec (.stageDiscard r) s = .next (staged .stageDiscard s.cfg.active))

/-- ACTIVATE refuses a staged image with the reason of the first failing check, changing nothing, and otherwise makes it
the active image: the epoch rises, CONFIG_ACTIVATED is raised, and the timing items go to TB (R136, R137). -/
def Obligations.ActivatePlacesAValidStagedImage : Prop :=
  (∀ (r : Req) (s : State), Ready r .activate s = true →
      (s.cfg.holds r.port = false → exec (.activate r) s = .next (s.reported r .activate .notHolder .none))
        ∧ ∀ l, s.cfg.lease = some l → l.holder = r.port →
            (∀ reason, l.staged.fault = some reason →
                exec (.activate r) s = .next (s.reported r .activate .invalidConfig (.invalidConfig reason)))
              ∧ (l.staged.fault = none →
                exec (.activate r) s =
                  .next ((({ s.served r .activate with
                      cfg := { s.cfg with active := l.staged, epoch := s.cfg.epoch + 1 },
                      arrivals :=
                        { s.arrivals with timings := s.arrivals.timings ++ [l.staged.timing] } } : State).raise
                    .configActivated).replied
                    r .activate .activated (.epoch (s.cfg.epoch + 1)))))
    ∧ ∀ i : Image,
        (i.fault = some .scaleFactor ↔ i.timing.mode = .scaled ∧ (i.timing.scale = 0#16 ∨ 4000 < i.timing.scale.toNat))
          ∧ (i.fault = none ↔
              (i.timing.mode = .scaled → 1 ≤ i.timing.scale.toNat ∧ i.timing.scale.toNat ≤ 4000)
                ∧ ∀ m ∈ [i.user.a.gyroAlign, i.user.a.accelAlign, i.user.b.gyroAlign, i.user.b.accelAlign],
                    m.x.x ≠ 0#32 ∧ m.y.y ≠ 0#32 ∧ m.z.z ≠ 0#32)
          ∧ ∀ (x : Head) (sensor : Sensor) (row : Fin 3),
              i.fault = some (.alignmentDiagonal x sensor row) ↔
                (i.timing.mode = .scaled → 1 ≤ i.timing.scale.toNat ∧ i.timing.scale.toNat ≤ 4000)
                  ∧ ∃ before after : List (Head × Sensor × Fin 3 × BitVec 32),
                      [(Head.A, Sensor.gyro, (0 : Fin 3), i.user.a.gyroAlign.x.x),
                            (.A, .gyro, 1, i.user.a.gyroAlign.y.y), (.A, .gyro, 2, i.user.a.gyroAlign.z.z),
                            (.A, .accel, 0, i.user.a.accelAlign.x.x), (.A, .accel, 1, i.user.a.accelAlign.y.y),
                            (.A, .accel, 2, i.user.a.accelAlign.z.z), (.B, .gyro, 0, i.user.b.gyroAlign.x.x),
                            (.B, .gyro, 1, i.user.b.gyroAlign.y.y), (.B, .gyro, 2, i.user.b.gyroAlign.z.z),
                            (.B, .accel, 0, i.user.b.accelAlign.x.x), (.B, .accel, 1, i.user.b.accelAlign.y.y),
                            (.B, .accel, 2, i.user.b.accelAlign.z.z)] =
                          before ++ (x, sensor, row, 0#32) :: after
                        ∧ ∀ e ∈ before, e.2.2.2 ≠ 0#32

/-! ## The calibration store -/

/-- STORE_COMMIT makes its checks in order and, accepted, takes the snapshot and begins the erase of the slot that is not
current; the ends of its phases write it, read it back, and end the commit DONE or FAILED with its COMPLETION
(R147 to R151).
The model's choices are these: what a fault of the medium leaves in the slot is an operand of WRITING_END, the check is
erased at the acceptance, and the fields written within WRITING appear at its end, log 10; without a current slot the
target is that of R147 after a FAILED commit too, log 39; a phase that has run its time stays due, log 26, and its end
before that time, or without its phase, changes nothing, log 3. -/
def Obligations.ACommitRunsThroughItsPhasesToDoneOrFailed : Prop :=
  (∀ (r : Req) (s : State) (target : Slot), Ready r .storeCommit s = true →
      ((s.store.current = some 0 ∧ target = 1) ∨ (s.store.current = some 1 ∧ target = 0)
          ∨ (s.store.current = none ∧ s.medium.writes[1].toNat < s.medium.writes[0].toNat ∧ target = 1)
          ∨ (s.store.current = none ∧ s.medium.writes[0].toNat ≤ s.medium.writes[1].toNat ∧ target = 0)) →
        (s.cfg.holds r.port = false → exec (.storeCommit r) s = .next (s.reported r .storeCommit .notHolder .none))
          ∧ (s.cfg.holds r.port = true →
            (s.store.busy = true → exec (.storeCommit r) s = .next (s.reported r .storeCommit .busy .none))
              ∧ (s.store.busy = false →
                ((100000 ≤ (s.medium.writes[target]).toNat
                      ∨ ∃ c, s.store.current = some c ∧ s.store.slotGeneration[c] = 0xFFFFFFFF#32) →
                    exec (.storeCommit r) s = .next (s.reported r .storeCommit .worn .none))
                  ∧ ∀ generation : BitVec 32,
                      (s.medium.writes[target]).toNat < 100000 →
                        ((s.store.current = none ∧ generation = 1#32)
                            ∨ ∃ c, s.store.current = some c ∧ s.store.slotGeneration[c] ≠ 0xFFFFFFFF#32
                                ∧ generation = s.store.slotGeneration[c] + 1) →
                          exec (.storeCommit r) s =
                            .next (({ s.served r .storeCommit with
                                medium :=
                                  { s.medium with
                                    writes := s.medium.writes.set target (s.medium.writes[target] + 1),
                                    slots :=
                                      s.medium.slots.set target { s.medium.slots[target] with check := none } },
                                store :=
                                  { s.store with
                                    commit :=
                                      some
                                        ⟨r.port, r.tag, false, s.cfg.active, ⟨target, generation, s.cfg.epoch⟩⟩,
                                    slotValidity := s.store.slotValidity.set target .invalid,
                                    slotGeneration := s.store.slotGeneration.set target 0#32, state := .erasing,
                                    phaseStart := s.tb.counter } } : State).replied
                              r .storeCommit .accepted (.commit ⟨target, generation, s.cfg.epoch⟩)))))
    ∧ (∀ s : State,
        ((s.store.commit = none ∨ s.store.state ≠ .erasing ∨ s.since s.store.phaseStart < 30000) →
            exec .erasingEnd s = .next s)
          ∧ ((s.store.commit = none ∨ s.store.state ≠ .writing ∨ s.since s.store.phaseStart < 10000) →
            ∀ outcome : MediumOutcome, exec (.writingEnd outcome) s = .next s)
          ∧ ((s.store.commit = none ∨ s.store.state ≠ .verifying ∨ s.since s.store.phaseStart < 2000) →
            exec .verifyingEnd s = .next s))
    ∧ ∀ (s : State) (c : Commit), s.power = .running → s.store.commit = some c →
        (s.store.state = .erasing → 30000 ≤ s.since s.store.phaseStart →
            exec .erasingEnd s =
              .next { s with
                medium :=
                  { s.medium with slots := s.medium.slots.set c.report.target ⟨none, none, none⟩ },
                store := { s.store with state := .writing, phaseStart := s.tb.counter } })
          ∧ (s.store.state = .writing → 10000 ≤ s.since s.store.phaseStart →
            ∀ (outcome : MediumOutcome) (held : SlotContents),
              ((outcome = .sound
                    ∧ held =
                      ⟨some c.report.generation, some c.snapshot.bytes, (s.medium.slots[c.report.target]).check⟩)
                  ∨ ∃ g i, outcome = .spoiled g i ∧ held = ⟨g, i, (s.medium.slots[c.report.target]).check⟩) →
                exec (.writingEnd outcome) s =
                  .next { s with
                    medium := { s.medium with slots := s.medium.slots.set c.report.target held },
                    store := { s.store with state := .verifying, phaseStart := s.tb.counter, readBack := some held } })
          ∧ ∀ r, s.store.state = .verifying → 2000 ≤ s.since s.store.phaseStart → s.store.readBack = some r →
              (r.generation = some c.report.generation → r.image = some c.snapshot.bytes →
                  ∃ t,
                    exec .verifyingEnd s = .next t
                      ∧ t.medium =
                          { s.medium with
                            slots :=
                              s.medium.slots.set c.report.target
                                { s.medium.slots[c.report.target] with
                                  check := some (slotCheck c.report.generation c.snapshot.bytes) } }
                      ∧ t.store =
                          { s.store with
                            slotValidity := s.store.slotValidity.set c.report.target .valid,
                            slotGeneration := s.store.slotGeneration.set c.report.target c.report.generation,
                            current := some c.report.target, loadOutcome := .loaded, last := some ⟨true, c.report⟩,
                            commit := none, readBack := none, state := .idle }
                      ∧ t.cond = s.cond
                      ∧ t.arrivals =
                          (if c.forgotten then s.arrivals
                            else
                              { s.arrivals with
                                completions :=
                                  s.arrivals.completions
                                    ++ [⟨c.port, Reply.completion .storeCommit c.tag .done (.commit c.report)⟩] })
                      ∧ { t with medium := s.medium, store := s.store, arrivals := s.arrivals } = s)
                ∧ ((r.generation ≠ some c.report.generation ∨ r.image ≠ some c.snapshot.bytes) →
                  ∃ t,
                    exec .verifyingEnd s = .next t ∧ t.medium = s.medium
                      ∧ t.store =
                          { s.store with last := some ⟨false, c.report⟩, commit := none, readBack := none, state := .idle }
                      ∧ t.cond = (s.raise .storeWriteFail).cond
                      ∧ t.arrivals =
                          (if c.forgotten then s.arrivals
                            else
                              { s.arrivals with
                                completions :=
                                  s.arrivals.completions
                                    ++ [⟨c.port, Reply.completion .storeCommit c.tag .failed (.commit c.report)⟩] })
                      ∧ { t with store := s.store, cond := s.cond, arrivals := s.arrivals } = s)

/-! ## Invariants -/

/-- The hub right after reset is in form: every invariant of the blocks holds.
State.reset carries the model's own choices, of which the active image that stands until the load, log 8, is what puts the
images within their ranges, and the medium of a new hub, log 7, stands in it. -/
def Obligations.ResetMeetsEveryInvariant : Prop := State.reset.Inv

/-- Every step keeps each queue within its depth and each condition set in order without repeats, and keeps at most one
holder of the lease, who does not wait, with each waiter once and the images within their ranges
(R1, R119, R122, R157, R175). -/
def Obligations.EveryStepKeepsTheQueuesTheSetsAndTheLease : Prop :=
  ∀ s t : State, step s = .next t →
    (s.QueuesBounded → t.QueuesBounded) ∧ (s.SetsOrdered → t.SetsOrdered)
      ∧ (s.cfg.LeaseConsistent → t.cfg.LeaseConsistent) ∧ (s.cfg.ImagesInRange → t.cfg.ImagesInRange)

/-- Every step keeps the ring a run of consecutive numbers that ends before next, at most 1024 long, with every cursor
between its oldest number and next and every watermark indication as it must be (R25, R26, R28, R31). -/
def Obligations.EveryStepKeepsTheRingConsecutiveAndItsReadersWithinIt : Prop :=
  ∀ s t : State, s.RingConsistent → step s = .next t → t.RingConsistent

/-- Every step keeps each link's counts within their ranges and at rest where its state says (R86 to R92). -/
def Obligations.EveryStepKeepsTheLinksConsistent : Prop :=
  ∀ s t : State, step s = .next t →
    (s.links.a.Consistent → t.links.a.Consistent) ∧ (s.links.b.Consistent → t.links.b.Consistent)

/-- A commit, a reset and a loss of supply never cost the newest valid slot: every step keeps STORE in agreement with the
medium and leaves a valid slot of at least the generation there was (R142, R150, R153).
What the medium holds within a phase is the model's choice, log 10. -/
def Obligations.NoStepLosesTheNewestValidSlot : Prop :=
  ∀ s t : State, s.cfg.ImagesInRange → s.StoreConsistent → step s = .next t →
    t.StoreConsistent ∧ s.medium.newest ≤ t.medium.newest
      ∧ ∀ n : Slot, (s.medium.writes[n]).toNat ≤ 100000 → (s.medium.writes[n]).toNat ≤ (t.medium.writes[n]).toNat
          ∧ (t.medium.writes[n]).toNat ≤ 100000
end

