-- ==== Sys2Proof/Laws/State.lean ====
section
/-! SUPPORT. What each shared update leaves alone and what it writes: one lemma for each field of the state. -/

namespace Sys2Proof.Machine

/-! ## `modifyPort` -/

@[simp] theorem State.modifyPort_pending (s : State) (p : Port) (f : PortState → PortState) : (s.modifyPort p f).pending = s.pending := rfl
@[simp] theorem State.modifyPort_power (s : State) (p : Port) (f : PortState → PortState) : (s.modifyPort p f).power = s.power := rfl
@[simp] theorem State.modifyPort_tb (s : State) (p : Port) (f : PortState → PortState) : (s.modifyPort p f).tb = s.tb := rfl
@[simp] theorem State.modifyPort_links (s : State) (p : Port) (f : PortState → PortState) : (s.modifyPort p f).links = s.links := rfl
@[simp] theorem State.modifyPort_sel (s : State) (p : Port) (f : PortState → PortState) : (s.modifyPort p f).sel = s.sel := rfl
@[simp] theorem State.modifyPort_hist (s : State) (p : Port) (f : PortState → PortState) : (s.modifyPort p f).hist = s.hist := rfl
@[simp] theorem State.modifyPort_delta (s : State) (p : Port) (f : PortState → PortState) : (s.modifyPort p f).delta = s.delta := rfl
@[simp] theorem State.modifyPort_ports (s : State) (p : Port) (f : PortState → PortState) :
    (s.modifyPort p f).ports = s.ports.set p (f s.ports[p]) := rfl
@[simp] theorem State.modifyPort_cfg (s : State) (p : Port) (f : PortState → PortState) : (s.modifyPort p f).cfg = s.cfg := rfl
@[simp] theorem State.modifyPort_store (s : State) (p : Port) (f : PortState → PortState) : (s.modifyPort p f).store = s.store := rfl
@[simp] theorem State.modifyPort_medium (s : State) (p : Port) (f : PortState → PortState) : (s.modifyPort p f).medium = s.medium := rfl
@[simp] theorem State.modifyPort_cond (s : State) (p : Port) (f : PortState → PortState) : (s.modifyPort p f).cond = s.cond := rfl
@[simp] theorem State.modifyPort_arrivals (s : State) (p : Port) (f : PortState → PortState) : (s.modifyPort p f).arrivals = s.arrivals := rfl

/-! ## `modifyLink` -/

@[simp] theorem State.modifyLink_pending (s : State) (x : Head) (f : Link → Link) : (s.modifyLink x f).pending = s.pending := rfl
@[simp] theorem State.modifyLink_power (s : State) (x : Head) (f : Link → Link) : (s.modifyLink x f).power = s.power := rfl
@[simp] theorem State.modifyLink_tb (s : State) (x : Head) (f : Link → Link) : (s.modifyLink x f).tb = s.tb := rfl
@[simp] theorem State.modifyLink_links (s : State) (x : Head) (f : Link → Link) :
    (s.modifyLink x f).links = s.links.set x (f (s.links.get x)) := rfl
@[simp] theorem State.modifyLink_sel (s : State) (x : Head) (f : Link → Link) : (s.modifyLink x f).sel = s.sel := rfl
@[simp] theorem State.modifyLink_hist (s : State) (x : Head) (f : Link → Link) : (s.modifyLink x f).hist = s.hist := rfl
@[simp] theorem State.modifyLink_delta (s : State) (x : Head) (f : Link → Link) : (s.modifyLink x f).delta = s.delta := rfl
@[simp] theorem State.modifyLink_ports (s : State) (x : Head) (f : Link → Link) : (s.modifyLink x f).ports = s.ports := rfl
@[simp] theorem State.modifyLink_cfg (s : State) (x : Head) (f : Link → Link) : (s.modifyLink x f).cfg = s.cfg := rfl
@[simp] theorem State.modifyLink_store (s : State) (x : Head) (f : Link → Link) : (s.modifyLink x f).store = s.store := rfl
@[simp] theorem State.modifyLink_medium (s : State) (x : Head) (f : Link → Link) : (s.modifyLink x f).medium = s.medium := rfl
@[simp] theorem State.modifyLink_cond (s : State) (x : Head) (f : Link → Link) : (s.modifyLink x f).cond = s.cond := rfl
@[simp] theorem State.modifyLink_arrivals (s : State) (x : Head) (f : Link → Link) : (s.modifyLink x f).arrivals = s.arrivals := rfl

/-! ## `modifyReader` -/

@[simp] theorem State.modifyReader_pending (s : State) (p : Port) (f : Reader → Reader) : (s.modifyReader p f).pending = s.pending := rfl
@[simp] theorem State.modifyReader_power (s : State) (p : Port) (f : Reader → Reader) : (s.modifyReader p f).power = s.power := rfl
@[simp] theorem State.modifyReader_tb (s : State) (p : Port) (f : Reader → Reader) : (s.modifyReader p f).tb = s.tb := rfl
@[simp] theorem State.modifyReader_links (s : State) (p : Port) (f : Reader → Reader) : (s.modifyReader p f).links = s.links := rfl
@[simp] theorem State.modifyReader_sel (s : State) (p : Port) (f : Reader → Reader) : (s.modifyReader p f).sel = s.sel := rfl
@[simp] theorem State.modifyReader_hist (s : State) (p : Port) (f : Reader → Reader) :
    (s.modifyReader p f).hist = { s.hist with readers := s.hist.readers.set p (f s.hist.readers[p]) } := rfl
@[simp] theorem State.modifyReader_delta (s : State) (p : Port) (f : Reader → Reader) : (s.modifyReader p f).delta = s.delta := rfl
@[simp] theorem State.modifyReader_ports (s : State) (p : Port) (f : Reader → Reader) : (s.modifyReader p f).ports = s.ports := rfl
@[simp] theorem State.modifyReader_cfg (s : State) (p : Port) (f : Reader → Reader) : (s.modifyReader p f).cfg = s.cfg := rfl
@[simp] theorem State.modifyReader_store (s : State) (p : Port) (f : Reader → Reader) : (s.modifyReader p f).store = s.store := rfl
@[simp] theorem State.modifyReader_medium (s : State) (p : Port) (f : Reader → Reader) : (s.modifyReader p f).medium = s.medium := rfl
@[simp] theorem State.modifyReader_cond (s : State) (p : Port) (f : Reader → Reader) : (s.modifyReader p f).cond = s.cond := rfl
@[simp] theorem State.modifyReader_arrivals (s : State) (p : Port) (f : Reader → Reader) : (s.modifyReader p f).arrivals = s.arrivals := rfl

/-! ## `setContext` -/

@[simp] theorem State.setContext_pending (s : State) (n : CtxNum) (v : Option Context) : (s.setContext n v).pending = s.pending := rfl
@[simp] theorem State.setContext_power (s : State) (n : CtxNum) (v : Option Context) : (s.setContext n v).power = s.power := rfl
@[simp] theorem State.setContext_tb (s : State) (n : CtxNum) (v : Option Context) : (s.setContext n v).tb = s.tb := rfl
@[simp] theorem State.setContext_links (s : State) (n : CtxNum) (v : Option Context) : (s.setContext n v).links = s.links := rfl
@[simp] theorem State.setContext_sel (s : State) (n : CtxNum) (v : Option Context) : (s.setContext n v).sel = s.sel := rfl
@[simp] theorem State.setContext_hist (s : State) (n : CtxNum) (v : Option Context) : (s.setContext n v).hist = s.hist := rfl
@[simp] theorem State.setContext_delta (s : State) (n : CtxNum) (v : Option Context) :
    (s.setContext n v).delta = { s.delta with contexts := s.delta.contexts.set n v } := rfl
@[simp] theorem State.setContext_ports (s : State) (n : CtxNum) (v : Option Context) : (s.setContext n v).ports = s.ports := rfl
@[simp] theorem State.setContext_cfg (s : State) (n : CtxNum) (v : Option Context) : (s.setContext n v).cfg = s.cfg := rfl
@[simp] theorem State.setContext_store (s : State) (n : CtxNum) (v : Option Context) : (s.setContext n v).store = s.store := rfl
@[simp] theorem State.setContext_medium (s : State) (n : CtxNum) (v : Option Context) : (s.setContext n v).medium = s.medium := rfl
@[simp] theorem State.setContext_cond (s : State) (n : CtxNum) (v : Option Context) : (s.setContext n v).cond = s.cond := rfl
@[simp] theorem State.setContext_arrivals (s : State) (n : CtxNum) (v : Option Context) : (s.setContext n v).arrivals = s.arrivals := rfl

/-! ## `raise` -/

@[simp] theorem State.raise_pending (s : State) (c : Cond) : (s.raise c).pending = s.pending := rfl
@[simp] theorem State.raise_power (s : State) (c : Cond) : (s.raise c).power = s.power := rfl
@[simp] theorem State.raise_tb (s : State) (c : Cond) : (s.raise c).tb = s.tb := rfl
@[simp] theorem State.raise_links (s : State) (c : Cond) : (s.raise c).links = s.links := rfl
@[simp] theorem State.raise_sel (s : State) (c : Cond) : (s.raise c).sel = s.sel := rfl
@[simp] theorem State.raise_hist (s : State) (c : Cond) : (s.raise c).hist = s.hist := rfl
@[simp] theorem State.raise_delta (s : State) (c : Cond) : (s.raise c).delta = s.delta := rfl
@[simp] theorem State.raise_ports (s : State) (c : Cond) : (s.raise c).ports = s.ports := rfl
@[simp] theorem State.raise_cfg (s : State) (c : Cond) : (s.raise c).cfg = s.cfg := rfl
@[simp] theorem State.raise_store (s : State) (c : Cond) : (s.raise c).store = s.store := rfl
@[simp] theorem State.raise_medium (s : State) (c : Cond) : (s.raise c).medium = s.medium := rfl
@[simp] theorem State.raise_cond (s : State) (c : Cond) :
    (s.raise c).cond = ({ s.cond with sets := s.cond.sets.map (insertCond c) } : Conditions).count c := rfl
@[simp] theorem State.raise_arrivals (s : State) (c : Cond) : (s.raise c).arrivals = s.arrivals := rfl

/-! ## `raisePort` -/

@[simp] theorem State.raisePort_pending (s : State) (c : Cond) (p : Port) : (s.raisePort c p).pending = s.pending := rfl
@[simp] theorem State.raisePort_power (s : State) (c : Cond) (p : Port) : (s.raisePort c p).power = s.power := rfl
@[simp] theorem State.raisePort_tb (s : State) (c : Cond) (p : Port) : (s.raisePort c p).tb = s.tb := rfl
@[simp] theorem State.raisePort_links (s : State) (c : Cond) (p : Port) : (s.raisePort c p).links = s.links := rfl
@[simp] theorem State.raisePort_sel (s : State) (c : Cond) (p : Port) : (s.raisePort c p).sel = s.sel := rfl
@[simp] theorem State.raisePort_hist (s : State) (c : Cond) (p : Port) : (s.raisePort c p).hist = s.hist := rfl
@[simp] theorem State.raisePort_delta (s : State) (c : Cond) (p : Port) : (s.raisePort c p).delta = s.delta := rfl
@[simp] theorem State.raisePort_ports (s : State) (c : Cond) (p : Port) : (s.raisePort c p).ports = s.ports := rfl
@[simp] theorem State.raisePort_cfg (s : State) (c : Cond) (p : Port) : (s.raisePort c p).cfg = s.cfg := rfl
@[simp] theorem State.raisePort_store (s : State) (c : Cond) (p : Port) : (s.raisePort c p).store = s.store := rfl
@[simp] theorem State.raisePort_medium (s : State) (c : Cond) (p : Port) : (s.raisePort c p).medium = s.medium := rfl
@[simp] theorem State.raisePort_cond (s : State) (c : Cond) (p : Port) :
    (s.raisePort c p).cond = ({ s.cond with sets := s.cond.sets.set p (insertCond c s.cond.sets[p]) } : Conditions).count c := rfl
@[simp] theorem State.raisePort_arrivals (s : State) (c : Cond) (p : Port) : (s.raisePort c p).arrivals = s.arrivals := rfl

/-! ## `complete` -/

@[simp] theorem State.complete_pending (s : State) (p : Port) (r : Reply) : (s.complete p r).pending = s.pending := rfl
@[simp] theorem State.complete_power (s : State) (p : Port) (r : Reply) : (s.complete p r).power = s.power := rfl
@[simp] theorem State.complete_tb (s : State) (p : Port) (r : Reply) : (s.complete p r).tb = s.tb := rfl
@[simp] theorem State.complete_links (s : State) (p : Port) (r : Reply) : (s.complete p r).links = s.links := rfl
@[simp] theorem State.complete_sel (s : State) (p : Port) (r : Reply) : (s.complete p r).sel = s.sel := rfl
@[simp] theorem State.complete_hist (s : State) (p : Port) (r : Reply) : (s.complete p r).hist = s.hist := rfl
@[simp] theorem State.complete_delta (s : State) (p : Port) (r : Reply) : (s.complete p r).delta = s.delta := rfl
@[simp] theorem State.complete_ports (s : State) (p : Port) (r : Reply) : (s.complete p r).ports = s.ports := rfl
@[simp] theorem State.complete_cfg (s : State) (p : Port) (r : Reply) : (s.complete p r).cfg = s.cfg := rfl
@[simp] theorem State.complete_store (s : State) (p : Port) (r : Reply) : (s.complete p r).store = s.store := rfl
@[simp] theorem State.complete_medium (s : State) (p : Port) (r : Reply) : (s.complete p r).medium = s.medium := rfl
@[simp] theorem State.complete_cond (s : State) (p : Port) (r : Reply) : (s.complete p r).cond = s.cond := rfl
@[simp] theorem State.complete_arrivals (s : State) (p : Port) (r : Reply) :
    (s.complete p r).arrivals = { s.arrivals with completions := s.arrivals.completions ++ [⟨p, r⟩] } := rfl

/-! ## `issueStrobe` -/

@[simp] theorem State.issueStrobe_pending (s : State) (t : Micros) (fb : Bool) (g : Option SyncTag) : (s.issueStrobe t fb g).pending = s.pending := rfl
@[simp] theorem State.issueStrobe_power (s : State) (t : Micros) (fb : Bool) (g : Option SyncTag) : (s.issueStrobe t fb g).power = s.power := rfl
@[simp] theorem State.issueStrobe_links (s : State) (t : Micros) (fb : Bool) (g : Option SyncTag) : (s.issueStrobe t fb g).links = s.links := rfl
@[simp] theorem State.issueStrobe_sel (s : State) (t : Micros) (fb : Bool) (g : Option SyncTag) : (s.issueStrobe t fb g).sel = s.sel := rfl
@[simp] theorem State.issueStrobe_hist (s : State) (t : Micros) (fb : Bool) (g : Option SyncTag) : (s.issueStrobe t fb g).hist = s.hist := rfl
@[simp] theorem State.issueStrobe_delta (s : State) (t : Micros) (fb : Bool) (g : Option SyncTag) : (s.issueStrobe t fb g).delta = s.delta := rfl
@[simp] theorem State.issueStrobe_ports (s : State) (t : Micros) (fb : Bool) (g : Option SyncTag) : (s.issueStrobe t fb g).ports = s.ports := rfl
@[simp] theorem State.issueStrobe_cfg (s : State) (t : Micros) (fb : Bool) (g : Option SyncTag) : (s.issueStrobe t fb g).cfg = s.cfg := rfl
@[simp] theorem State.issueStrobe_store (s : State) (t : Micros) (fb : Bool) (g : Option SyncTag) : (s.issueStrobe t fb g).store = s.store := rfl
@[simp] theorem State.issueStrobe_medium (s : State) (t : Micros) (fb : Bool) (g : Option SyncTag) : (s.issueStrobe t fb g).medium = s.medium := rfl
@[simp] theorem State.issueStrobe_cond (s : State) (t : Micros) (fb : Bool) (g : Option SyncTag) : (s.issueStrobe t fb g).cond = s.cond := rfl

/-! ## `clearConditions` -/

@[simp] theorem State.clearConditions_pending (s : State) (p : Port) : (s.clearConditions p).pending = s.pending := rfl
@[simp] theorem State.clearConditions_power (s : State) (p : Port) : (s.clearConditions p).power = s.power := rfl
@[simp] theorem State.clearConditions_tb (s : State) (p : Port) : (s.clearConditions p).tb = s.tb := rfl
@[simp] theorem State.clearConditions_links (s : State) (p : Port) : (s.clearConditions p).links = s.links := rfl
@[simp] theorem State.clearConditions_sel (s : State) (p : Port) : (s.clearConditions p).sel = s.sel := rfl
@[simp] theorem State.clearConditions_hist (s : State) (p : Port) : (s.clearConditions p).hist = s.hist := rfl
@[simp] theorem State.clearConditions_delta (s : State) (p : Port) : (s.clearConditions p).delta = s.delta := rfl
@[simp] theorem State.clearConditions_ports (s : State) (p : Port) : (s.clearConditions p).ports = s.ports := rfl
@[simp] theorem State.clearConditions_cfg (s : State) (p : Port) : (s.clearConditions p).cfg = s.cfg := rfl
@[simp] theorem State.clearConditions_store (s : State) (p : Port) : (s.clearConditions p).store = s.store := rfl
@[simp] theorem State.clearConditions_medium (s : State) (p : Port) : (s.clearConditions p).medium = s.medium := rfl
@[simp] theorem State.clearConditions_cond (s : State) (p : Port) :
    (s.clearConditions p).cond = { s.cond with sets := s.cond.sets.set p [] } := rfl
@[simp] theorem State.clearConditions_arrivals (s : State) (p : Port) : (s.clearConditions p).arrivals = s.arrivals := rfl

/-! ## `freeContexts` -/

@[simp] theorem State.freeContexts_pending (s : State) (p : Port) : (s.freeContexts p).pending = s.pending := rfl
@[simp] theorem State.freeContexts_power (s : State) (p : Port) : (s.freeContexts p).power = s.power := rfl
@[simp] theorem State.freeContexts_tb (s : State) (p : Port) : (s.freeContexts p).tb = s.tb := rfl
@[simp] theorem State.freeContexts_links (s : State) (p : Port) : (s.freeContexts p).links = s.links := rfl
@[simp] theorem State.freeContexts_sel (s : State) (p : Port) : (s.freeContexts p).sel = s.sel := rfl
@[simp] theorem State.freeContexts_hist (s : State) (p : Port) : (s.freeContexts p).hist = s.hist := rfl
@[simp] theorem State.freeContexts_ports (s : State) (p : Port) : (s.freeContexts p).ports = s.ports := rfl
@[simp] theorem State.freeContexts_cfg (s : State) (p : Port) : (s.freeContexts p).cfg = s.cfg := rfl
@[simp] theorem State.freeContexts_store (s : State) (p : Port) : (s.freeContexts p).store = s.store := rfl
@[simp] theorem State.freeContexts_medium (s : State) (p : Port) : (s.freeContexts p).medium = s.medium := rfl
@[simp] theorem State.freeContexts_cond (s : State) (p : Port) : (s.freeContexts p).cond = s.cond := rfl
@[simp] theorem State.freeContexts_arrivals (s : State) (p : Port) : (s.freeContexts p).arrivals = s.arrivals := rfl

/-! ## `grant` -/

@[simp] theorem State.grant_pending (s : State) (p : Port) (m : BitVec 16) : (s.grant p m).pending = s.pending := rfl
@[simp] theorem State.grant_power (s : State) (p : Port) (m : BitVec 16) : (s.grant p m).power = s.power := rfl
@[simp] theorem State.grant_tb (s : State) (p : Port) (m : BitVec 16) : (s.grant p m).tb = s.tb := rfl
@[simp] theorem State.grant_links (s : State) (p : Port) (m : BitVec 16) : (s.grant p m).links = s.links := rfl
@[simp] theorem State.grant_sel (s : State) (p : Port) (m : BitVec 16) : (s.grant p m).sel = s.sel := rfl
@[simp] theorem State.grant_hist (s : State) (p : Port) (m : BitVec 16) : (s.grant p m).hist = s.hist := rfl
@[simp] theorem State.grant_delta (s : State) (p : Port) (m : BitVec 16) : (s.grant p m).delta = s.delta := rfl
@[simp] theorem State.grant_ports (s : State) (p : Port) (m : BitVec 16) : (s.grant p m).ports = s.ports := rfl
@[simp] theorem State.grant_cfg (s : State) (p : Port) (m : BitVec 16) :
    (s.grant p m).cfg = { s.cfg with lease := some ⟨p, s.expiryAfter m, s.cfg.active⟩ } := rfl
@[simp] theorem State.grant_store (s : State) (p : Port) (m : BitVec 16) : (s.grant p m).store = s.store := rfl
@[simp] theorem State.grant_medium (s : State) (p : Port) (m : BitVec 16) : (s.grant p m).medium = s.medium := rfl
@[simp] theorem State.grant_cond (s : State) (p : Port) (m : BitVec 16) : (s.grant p m).cond = s.cond := rfl
@[simp] theorem State.grant_arrivals (s : State) (p : Port) (m : BitVec 16) : (s.grant p m).arrivals = s.arrivals := rfl

/-! ## `placeRecord` -/

@[simp] theorem State.placeRecord_pending (s : State) (p : Publication) : (s.placeRecord p).pending = s.pending := rfl
@[simp] theorem State.placeRecord_power (s : State) (p : Publication) : (s.placeRecord p).power = s.power := rfl
@[simp] theorem State.placeRecord_tb (s : State) (p : Publication) : (s.placeRecord p).tb = s.tb := rfl
@[simp] theorem State.placeRecord_links (s : State) (p : Publication) : (s.placeRecord p).links = s.links := rfl
@[simp] theorem State.placeRecord_sel (s : State) (p : Publication) : (s.placeRecord p).sel = s.sel := rfl
@[simp] theorem State.placeRecord_delta (s : State) (p : Publication) : (s.placeRecord p).delta = s.delta := rfl
@[simp] theorem State.placeRecord_ports (s : State) (p : Publication) : (s.placeRecord p).ports = s.ports := rfl
@[simp] theorem State.placeRecord_cfg (s : State) (p : Publication) : (s.placeRecord p).cfg = s.cfg := rfl
@[simp] theorem State.placeRecord_store (s : State) (p : Publication) : (s.placeRecord p).store = s.store := rfl
@[simp] theorem State.placeRecord_medium (s : State) (p : Publication) : (s.placeRecord p).medium = s.medium := rfl
@[simp] theorem State.placeRecord_cond (s : State) (p : Publication) : (s.placeRecord p).cond = s.cond := rfl
@[simp] theorem State.placeRecord_arrivals (s : State) (p : Publication) : (s.placeRecord p).arrivals = s.arrivals := rfl

/-! ## `placeCommand` -/

@[simp] theorem State.placeCommand_pending (s : State) (x : Head) (k : CommandKind) (o : Origin) : (s.placeCommand x k o).pending = s.pending := rfl
@[simp] theorem State.placeCommand_power (s : State) (x : Head) (k : CommandKind) (o : Origin) : (s.placeCommand x k o).power = s.power := rfl
@[simp] theorem State.placeCommand_tb (s : State) (x : Head) (k : CommandKind) (o : Origin) : (s.placeCommand x k o).tb = s.tb := rfl
@[simp] theorem State.placeCommand_sel (s : State) (x : Head) (k : CommandKind) (o : Origin) : (s.placeCommand x k o).sel = s.sel := rfl
@[simp] theorem State.placeCommand_hist (s : State) (x : Head) (k : CommandKind) (o : Origin) : (s.placeCommand x k o).hist = s.hist := rfl
@[simp] theorem State.placeCommand_delta (s : State) (x : Head) (k : CommandKind) (o : Origin) : (s.placeCommand x k o).delta = s.delta := rfl
@[simp] theorem State.placeCommand_ports (s : State) (x : Head) (k : CommandKind) (o : Origin) : (s.placeCommand x k o).ports = s.ports := rfl
@[simp] theorem State.placeCommand_cfg (s : State) (x : Head) (k : CommandKind) (o : Origin) : (s.placeCommand x k o).cfg = s.cfg := rfl
@[simp] theorem State.placeCommand_store (s : State) (x : Head) (k : CommandKind) (o : Origin) : (s.placeCommand x k o).store = s.store := rfl
@[simp] theorem State.placeCommand_medium (s : State) (x : Head) (k : CommandKind) (o : Origin) : (s.placeCommand x k o).medium = s.medium := rfl
@[simp] theorem State.placeCommand_cond (s : State) (x : Head) (k : CommandKind) (o : Origin) : (s.placeCommand x k o).cond = s.cond := rfl
@[simp] theorem State.placeCommand_arrivals (s : State) (x : Head) (k : CommandKind) (o : Origin) : (s.placeCommand x k o).arrivals = s.arrivals := rfl

/-! ## `resetReader` -/

@[simp] theorem State.resetReader_pending (s : State) (p : Port) : (s.resetReader p).pending = s.pending := rfl
@[simp] theorem State.resetReader_power (s : State) (p : Port) : (s.resetReader p).power = s.power := rfl
@[simp] theorem State.resetReader_tb (s : State) (p : Port) : (s.resetReader p).tb = s.tb := rfl
@[simp] theorem State.resetReader_links (s : State) (p : Port) : (s.resetReader p).links = s.links := rfl
@[simp] theorem State.resetReader_sel (s : State) (p : Port) : (s.resetReader p).sel = s.sel := rfl
@[simp] theorem State.resetReader_delta (s : State) (p : Port) : (s.resetReader p).delta = s.delta := rfl
@[simp] theorem State.resetReader_ports (s : State) (p : Port) : (s.resetReader p).ports = s.ports := rfl
@[simp] theorem State.resetReader_cfg (s : State) (p : Port) : (s.resetReader p).cfg = s.cfg := rfl
@[simp] theorem State.resetReader_store (s : State) (p : Port) : (s.resetReader p).store = s.store := rfl
@[simp] theorem State.resetReader_medium (s : State) (p : Port) : (s.resetReader p).medium = s.medium := rfl
@[simp] theorem State.resetReader_cond (s : State) (p : Port) : (s.resetReader p).cond = s.cond := rfl
@[simp] theorem State.resetReader_arrivals (s : State) (p : Port) : (s.resetReader p).arrivals = s.arrivals := rfl

/-! ## `activateImage` -/

@[simp] theorem State.activateImage_pending (s : State) (i : Image) : (s.activateImage i).pending = s.pending := rfl
@[simp] theorem State.activateImage_power (s : State) (i : Image) : (s.activateImage i).power = s.power := rfl
@[simp] theorem State.activateImage_tb (s : State) (i : Image) : (s.activateImage i).tb = s.tb := rfl
@[simp] theorem State.activateImage_links (s : State) (i : Image) : (s.activateImage i).links = s.links := rfl
@[simp] theorem State.activateImage_sel (s : State) (i : Image) : (s.activateImage i).sel = s.sel := rfl
@[simp] theorem State.activateImage_hist (s : State) (i : Image) : (s.activateImage i).hist = s.hist := rfl
@[simp] theorem State.activateImage_delta (s : State) (i : Image) : (s.activateImage i).delta = s.delta := rfl
@[simp] theorem State.activateImage_ports (s : State) (i : Image) : (s.activateImage i).ports = s.ports := rfl
@[simp] theorem State.activateImage_cfg (s : State) (i : Image) :
    (s.activateImage i).cfg = { s.cfg with active := i, epoch := s.cfg.epoch + 1 } := rfl
@[simp] theorem State.activateImage_store (s : State) (i : Image) : (s.activateImage i).store = s.store := rfl
@[simp] theorem State.activateImage_medium (s : State) (i : Image) : (s.activateImage i).medium = s.medium := rfl

/-! ## `beginCommit` -/

@[simp] theorem State.beginCommit_pending (s : State) (p : Port) (tag : Byte) : (s.beginCommit p tag).pending = s.pending := rfl
@[simp] theorem State.beginCommit_power (s : State) (p : Port) (tag : Byte) : (s.beginCommit p tag).power = s.power := rfl
@[simp] theorem State.beginCommit_tb (s : State) (p : Port) (tag : Byte) : (s.beginCommit p tag).tb = s.tb := rfl
@[simp] theorem State.beginCommit_links (s : State) (p : Port) (tag : Byte) : (s.beginCommit p tag).links = s.links := rfl
@[simp] theorem State.beginCommit_sel (s : State) (p : Port) (tag : Byte) : (s.beginCommit p tag).sel = s.sel := rfl
@[simp] theorem State.beginCommit_hist (s : State) (p : Port) (tag : Byte) : (s.beginCommit p tag).hist = s.hist := rfl
@[simp] theorem State.beginCommit_delta (s : State) (p : Port) (tag : Byte) : (s.beginCommit p tag).delta = s.delta := rfl
@[simp] theorem State.beginCommit_ports (s : State) (p : Port) (tag : Byte) : (s.beginCommit p tag).ports = s.ports := rfl
@[simp] theorem State.beginCommit_cfg (s : State) (p : Port) (tag : Byte) : (s.beginCommit p tag).cfg = s.cfg := rfl
@[simp] theorem State.beginCommit_cond (s : State) (p : Port) (tag : Byte) : (s.beginCommit p tag).cond = s.cond := rfl
@[simp] theorem State.beginCommit_arrivals (s : State) (p : Port) (tag : Byte) : (s.beginCommit p tag).arrivals = s.arrivals := rfl

/-! ## `startInterval` -/

@[simp] theorem State.startInterval_pending (s : State) (o : Micros) (c : BitVec 16) (m : Nat) : (s.startInterval o c m).pending = s.pending := by
  unfold State.startInterval; split <;> rfl
@[simp] theorem State.startInterval_power (s : State) (o : Micros) (c : BitVec 16) (m : Nat) : (s.startInterval o c m).power = s.power := by
  unfold State.startInterval; split <;> rfl
@[simp] theorem State.startInterval_links (s : State) (o : Micros) (c : BitVec 16) (m : Nat) : (s.startInterval o c m).links = s.links := by
  unfold State.startInterval; split <;> rfl
@[simp] theorem State.startInterval_sel (s : State) (o : Micros) (c : BitVec 16) (m : Nat) : (s.startInterval o c m).sel = s.sel := by
  unfold State.startInterval; split <;> rfl
@[simp] theorem State.startInterval_hist (s : State) (o : Micros) (c : BitVec 16) (m : Nat) : (s.startInterval o c m).hist = s.hist := by
  unfold State.startInterval; split <;> rfl
@[simp] theorem State.startInterval_delta (s : State) (o : Micros) (c : BitVec 16) (m : Nat) : (s.startInterval o c m).delta = s.delta := by
  unfold State.startInterval; split <;> rfl
@[simp] theorem State.startInterval_ports (s : State) (o : Micros) (c : BitVec 16) (m : Nat) : (s.startInterval o c m).ports = s.ports := by
  unfold State.startInterval; split <;> rfl
@[simp] theorem State.startInterval_cfg (s : State) (o : Micros) (c : BitVec 16) (m : Nat) : (s.startInterval o c m).cfg = s.cfg := by
  unfold State.startInterval; split <;> rfl
@[simp] theorem State.startInterval_store (s : State) (o : Micros) (c : BitVec 16) (m : Nat) : (s.startInterval o c m).store = s.store := by
  unfold State.startInterval; split <;> rfl
@[simp] theorem State.startInterval_medium (s : State) (o : Micros) (c : BitVec 16) (m : Nat) : (s.startInterval o c m).medium = s.medium := by
  unfold State.startInterval; split <;> rfl
@[simp] theorem State.startInterval_cond (s : State) (o : Micros) (c : BitVec 16) (m : Nat) : (s.startInterval o c m).cond = s.cond := by
  unfold State.startInterval; split <;> rfl

/-! ## `raiseIf` -/

@[simp] theorem State.raiseIf_pending (s : State) (b : Bool) (c : Cond) : (s.raiseIf b c).pending = s.pending := by
  unfold State.raiseIf; split <;> rfl
@[simp] theorem State.raiseIf_power (s : State) (b : Bool) (c : Cond) : (s.raiseIf b c).power = s.power := by
  unfold State.raiseIf; split <;> rfl
@[simp] theorem State.raiseIf_tb (s : State) (b : Bool) (c : Cond) : (s.raiseIf b c).tb = s.tb := by
  unfold State.raiseIf; split <;> rfl
@[simp] theorem State.raiseIf_links (s : State) (b : Bool) (c : Cond) : (s.raiseIf b c).links = s.links := by
  unfold State.raiseIf; split <;> rfl
@[simp] theorem State.raiseIf_sel (s : State) (b : Bool) (c : Cond) : (s.raiseIf b c).sel = s.sel := by
  unfold State.raiseIf; split <;> rfl
@[simp] theorem State.raiseIf_hist (s : State) (b : Bool) (c : Cond) : (s.raiseIf b c).hist = s.hist := by
  unfold State.raiseIf; split <;> rfl
@[simp] theorem State.raiseIf_delta (s : State) (b : Bool) (c : Cond) : (s.raiseIf b c).delta = s.delta := by
  unfold State.raiseIf; split <;> rfl
@[simp] theorem State.raiseIf_ports (s : State) (b : Bool) (c : Cond) : (s.raiseIf b c).ports = s.ports := by
  unfold State.raiseIf; split <;> rfl
@[simp] theorem State.raiseIf_cfg (s : State) (b : Bool) (c : Cond) : (s.raiseIf b c).cfg = s.cfg := by
  unfold State.raiseIf; split <;> rfl
@[simp] theorem State.raiseIf_store (s : State) (b : Bool) (c : Cond) : (s.raiseIf b c).store = s.store := by
  unfold State.raiseIf; split <;> rfl
@[simp] theorem State.raiseIf_medium (s : State) (b : Bool) (c : Cond) : (s.raiseIf b c).medium = s.medium := by
  unfold State.raiseIf; split <;> rfl
@[simp] theorem State.raiseIf_arrivals (s : State) (b : Bool) (c : Cond) : (s.raiseIf b c).arrivals = s.arrivals := by
  unfold State.raiseIf; split <;> rfl

/-! ## `appendReply` -/

@[simp] theorem State.appendReply_pending (s : State) (p : Port) (r : Reply) : (s.appendReply p r).pending = s.pending := by
  unfold State.appendReply; split <;> rfl
@[simp] theorem State.appendReply_power (s : State) (p : Port) (r : Reply) : (s.appendReply p r).power = s.power := by
  unfold State.appendReply; split <;> rfl
@[simp] theorem State.appendReply_tb (s : State) (p : Port) (r : Reply) : (s.appendReply p r).tb = s.tb := by
  unfold State.appendReply; split <;> rfl
@[simp] theorem State.appendReply_links (s : State) (p : Port) (r : Reply) : (s.appendReply p r).links = s.links := by
  unfold State.appendReply; split <;> rfl
@[simp] theorem State.appendReply_sel (s : State) (p : Port) (r : Reply) : (s.appendReply p r).sel = s.sel := by
  unfold State.appendReply; split <;> rfl
@[simp] theorem State.appendReply_hist (s : State) (p : Port) (r : Reply) : (s.appendReply p r).hist = s.hist := by
  unfold State.appendReply; split <;> rfl
@[simp] theorem State.appendReply_delta (s : State) (p : Port) (r : Reply) : (s.appendReply p r).delta = s.delta := by
  unfold State.appendReply; split <;> rfl
@[simp] theorem State.appendReply_cfg (s : State) (p : Port) (r : Reply) : (s.appendReply p r).cfg = s.cfg := by
  unfold State.appendReply; split <;> rfl
@[simp] theorem State.appendReply_store (s : State) (p : Port) (r : Reply) : (s.appendReply p r).store = s.store := by
  unfold State.appendReply; split <;> rfl
@[simp] theorem State.appendReply_medium (s : State) (p : Port) (r : Reply) : (s.appendReply p r).medium = s.medium := by
  unfold State.appendReply; split <;> rfl
@[simp] theorem State.appendReply_arrivals (s : State) (p : Port) (r : Reply) : (s.appendReply p r).arrivals = s.arrivals := by
  unfold State.appendReply; split <;> rfl

/-! ## `putEntry` -/

@[simp] theorem State.putEntry_pending (s : State) (n : CtxNum) (e : Entry) : (s.putEntry n e).pending = s.pending := by
  cases e <;> rfl
@[simp] theorem State.putEntry_power (s : State) (n : CtxNum) (e : Entry) : (s.putEntry n e).power = s.power := by
  cases e <;> rfl
@[simp] theorem State.putEntry_tb (s : State) (n : CtxNum) (e : Entry) : (s.putEntry n e).tb = s.tb := by
  cases e <;> rfl
@[simp] theorem State.putEntry_links (s : State) (n : CtxNum) (e : Entry) : (s.putEntry n e).links = s.links := by
  cases e <;> rfl
@[simp] theorem State.putEntry_sel (s : State) (n : CtxNum) (e : Entry) : (s.putEntry n e).sel = s.sel := by
  cases e <;> rfl
@[simp] theorem State.putEntry_hist (s : State) (n : CtxNum) (e : Entry) : (s.putEntry n e).hist = s.hist := by
  cases e <;> rfl
@[simp] theorem State.putEntry_ports (s : State) (n : CtxNum) (e : Entry) : (s.putEntry n e).ports = s.ports := by
  cases e <;> rfl
@[simp] theorem State.putEntry_cfg (s : State) (n : CtxNum) (e : Entry) : (s.putEntry n e).cfg = s.cfg := by
  cases e <;> rfl
@[simp] theorem State.putEntry_store (s : State) (n : CtxNum) (e : Entry) : (s.putEntry n e).store = s.store := by
  cases e <;> rfl
@[simp] theorem State.putEntry_medium (s : State) (n : CtxNum) (e : Entry) : (s.putEntry n e).medium = s.medium := by
  cases e <;> rfl
@[simp] theorem State.putEntry_cond (s : State) (n : CtxNum) (e : Entry) : (s.putEntry n e).cond = s.cond := by
  cases e <;> rfl

/-! ## `reportCommit` -/

@[simp] theorem State.reportCommit_pending (s : State) (c : Commit) (r : Result) : (s.reportCommit c r).pending = s.pending := by
  unfold State.reportCommit; split <;> rfl
@[simp] theorem State.reportCommit_power (s : State) (c : Commit) (r : Result) : (s.reportCommit c r).power = s.power := by
  unfold State.reportCommit; split <;> rfl
@[simp] theorem State.reportCommit_tb (s : State) (c : Commit) (r : Result) : (s.reportCommit c r).tb = s.tb := by
  unfold State.reportCommit; split <;> rfl
@[simp] theorem State.reportCommit_links (s : State) (c : Commit) (r : Result) : (s.reportCommit c r).links = s.links := by
  unfold State.reportCommit; split <;> rfl
@[simp] theorem State.reportCommit_sel (s : State) (c : Commit) (r : Result) : (s.reportCommit c r).sel = s.sel := by
  unfold State.reportCommit; split <;> rfl
@[simp] theorem State.reportCommit_hist (s : State) (c : Commit) (r : Result) : (s.reportCommit c r).hist = s.hist := by
  unfold State.reportCommit; split <;> rfl
@[simp] theorem State.reportCommit_delta (s : State) (c : Commit) (r : Result) : (s.reportCommit c r).delta = s.delta := by
  unfold State.reportCommit; split <;> rfl
@[simp] theorem State.reportCommit_ports (s : State) (c : Commit) (r : Result) : (s.reportCommit c r).ports = s.ports := by
  unfold State.reportCommit; split <;> rfl
@[simp] theorem State.reportCommit_cfg (s : State) (c : Commit) (r : Result) : (s.reportCommit c r).cfg = s.cfg := by
  unfold State.reportCommit; split <;> rfl
@[simp] theorem State.reportCommit_store (s : State) (c : Commit) (r : Result) : (s.reportCommit c r).store = s.store := by
  unfold State.reportCommit; split <;> rfl
@[simp] theorem State.reportCommit_medium (s : State) (c : Commit) (r : Result) : (s.reportCommit c r).medium = s.medium := by
  unfold State.reportCommit; split <;> rfl
@[simp] theorem State.reportCommit_cond (s : State) (c : Commit) (r : Result) : (s.reportCommit c r).cond = s.cond := by
  unfold State.reportCommit; split <;> rfl

/-! ## `endCommand` -/

@[simp] theorem State.endCommand_pending (s : State) (x : Head) (r : Result) (d : CommandDetail) : (s.endCommand x r d).pending = s.pending := by
  unfold State.endCommand; split
  · rfl
  · split <;> (try split) <;> simp
@[simp] theorem State.endCommand_power (s : State) (x : Head) (r : Result) (d : CommandDetail) : (s.endCommand x r d).power = s.power := by
  unfold State.endCommand; split
  · rfl
  · split <;> (try split) <;> simp
@[simp] theorem State.endCommand_tb (s : State) (x : Head) (r : Result) (d : CommandDetail) : (s.endCommand x r d).tb = s.tb := by
  unfold State.endCommand; split
  · rfl
  · split <;> (try split) <;> simp
@[simp] theorem State.endCommand_sel (s : State) (x : Head) (r : Result) (d : CommandDetail) : (s.endCommand x r d).sel = s.sel := by
  unfold State.endCommand; split
  · rfl
  · split <;> (try split) <;> simp
@[simp] theorem State.endCommand_hist (s : State) (x : Head) (r : Result) (d : CommandDetail) : (s.endCommand x r d).hist = s.hist := by
  unfold State.endCommand; split
  · rfl
  · split <;> (try split) <;> simp
@[simp] theorem State.endCommand_delta (s : State) (x : Head) (r : Result) (d : CommandDetail) : (s.endCommand x r d).delta = s.delta := by
  unfold State.endCommand; split
  · rfl
  · split <;> (try split) <;> simp
@[simp] theorem State.endCommand_ports (s : State) (x : Head) (r : Result) (d : CommandDetail) : (s.endCommand x r d).ports = s.ports := by
  unfold State.endCommand; split
  · rfl
  · split <;> (try split) <;> simp
@[simp] theorem State.endCommand_cfg (s : State) (x : Head) (r : Result) (d : CommandDetail) : (s.endCommand x r d).cfg = s.cfg := by
  unfold State.endCommand; split
  · rfl
  · split <;> (try split) <;> simp
@[simp] theorem State.endCommand_store (s : State) (x : Head) (r : Result) (d : CommandDetail) : (s.endCommand x r d).store = s.store := by
  unfold State.endCommand; split
  · rfl
  · split <;> (try split) <;> simp
@[simp] theorem State.endCommand_medium (s : State) (x : Head) (r : Result) (d : CommandDetail) : (s.endCommand x r d).medium = s.medium := by
  unfold State.endCommand; split
  · rfl
  · split <;> (try split) <;> simp

/-! ## `frameError` -/

@[simp] theorem State.frameError_pending (s : State) (p : Port) (k t : Byte) (e : FrameReason) (n : Nat) : (s.frameError p k t e n).pending = s.pending := by simp [State.frameError]
@[simp] theorem State.frameError_power (s : State) (p : Port) (k t : Byte) (e : FrameReason) (n : Nat) : (s.frameError p k t e n).power = s.power := by simp [State.frameError]
@[simp] theorem State.frameError_tb (s : State) (p : Port) (k t : Byte) (e : FrameReason) (n : Nat) : (s.frameError p k t e n).tb = s.tb := by simp [State.frameError]
@[simp] theorem State.frameError_links (s : State) (p : Port) (k t : Byte) (e : FrameReason) (n : Nat) : (s.frameError p k t e n).links = s.links := by simp [State.frameError]
@[simp] theorem State.frameError_sel (s : State) (p : Port) (k t : Byte) (e : FrameReason) (n : Nat) : (s.frameError p k t e n).sel = s.sel := by simp [State.frameError]
@[simp] theorem State.frameError_hist (s : State) (p : Port) (k t : Byte) (e : FrameReason) (n : Nat) : (s.frameError p k t e n).hist = s.hist := by simp [State.frameError]
@[simp] theorem State.frameError_delta (s : State) (p : Port) (k t : Byte) (e : FrameReason) (n : Nat) : (s.frameError p k t e n).delta = s.delta := by simp [State.frameError]
@[simp] theorem State.frameError_cfg (s : State) (p : Port) (k t : Byte) (e : FrameReason) (n : Nat) : (s.frameError p k t e n).cfg = s.cfg := by simp [State.frameError]
@[simp] theorem State.frameError_store (s : State) (p : Port) (k t : Byte) (e : FrameReason) (n : Nat) : (s.frameError p k t e n).store = s.store := by simp [State.frameError]
@[simp] theorem State.frameError_medium (s : State) (p : Port) (k t : Byte) (e : FrameReason) (n : Nat) : (s.frameError p k t e n).medium = s.medium := by simp [State.frameError]
@[simp] theorem State.frameError_arrivals (s : State) (p : Port) (k t : Byte) (e : FrameReason) (n : Nat) : (s.frameError p k t e n).arrivals = s.arrivals := by simp [State.frameError]

/-! ## `grantNext` -/

@[simp] theorem State.grantNext_pending (s : State) : (s.grantNext).pending = s.pending := by
  unfold State.grantNext; split <;> rfl
@[simp] theorem State.grantNext_power (s : State) : (s.grantNext).power = s.power := by
  unfold State.grantNext; split <;> rfl
@[simp] theorem State.grantNext_tb (s : State) : (s.grantNext).tb = s.tb := by
  unfold State.grantNext; split <;> rfl
@[simp] theorem State.grantNext_links (s : State) : (s.grantNext).links = s.links := by
  unfold State.grantNext; split <;> rfl
@[simp] theorem State.grantNext_sel (s : State) : (s.grantNext).sel = s.sel := by
  unfold State.grantNext; split <;> rfl
@[simp] theorem State.grantNext_hist (s : State) : (s.grantNext).hist = s.hist := by
  unfold State.grantNext; split <;> rfl
@[simp] theorem State.grantNext_delta (s : State) : (s.grantNext).delta = s.delta := by
  unfold State.grantNext; split <;> rfl
@[simp] theorem State.grantNext_ports (s : State) : (s.grantNext).ports = s.ports := by
  unfold State.grantNext; split <;> rfl
@[simp] theorem State.grantNext_store (s : State) : (s.grantNext).store = s.store := by
  unfold State.grantNext; split <;> rfl
@[simp] theorem State.grantNext_medium (s : State) : (s.grantNext).medium = s.medium := by
  unfold State.grantNext; split <;> rfl
@[simp] theorem State.grantNext_cond (s : State) : (s.grantNext).cond = s.cond := by
  unfold State.grantNext; split <;> rfl

/-! ## `endLease` -/

@[simp] theorem State.endLease_pending (s : State) : (s.endLease).pending = s.pending := by simp [State.endLease]
@[simp] theorem State.endLease_power (s : State) : (s.endLease).power = s.power := by simp [State.endLease]
@[simp] theorem State.endLease_tb (s : State) : (s.endLease).tb = s.tb := by simp [State.endLease]
@[simp] theorem State.endLease_links (s : State) : (s.endLease).links = s.links := by simp [State.endLease]
@[simp] theorem State.endLease_sel (s : State) : (s.endLease).sel = s.sel := by simp [State.endLease]
@[simp] theorem State.endLease_hist (s : State) : (s.endLease).hist = s.hist := by simp [State.endLease]
@[simp] theorem State.endLease_delta (s : State) : (s.endLease).delta = s.delta := by simp [State.endLease]
@[simp] theorem State.endLease_ports (s : State) : (s.endLease).ports = s.ports := by simp [State.endLease]
@[simp] theorem State.endLease_store (s : State) : (s.endLease).store = s.store := by simp [State.endLease]
@[simp] theorem State.endLease_medium (s : State) : (s.endLease).medium = s.medium := by simp [State.endLease]
@[simp] theorem State.endLease_cond (s : State) : (s.endLease).cond = s.cond := by simp [State.endLease]

/-! ## `closeWindow` -/

@[simp] theorem State.closeWindow_pending (s : State) : (s.closeWindow).pending = s.pending := by
  unfold State.closeWindow; split <;> simp
@[simp] theorem State.closeWindow_power (s : State) : (s.closeWindow).power = s.power := by
  unfold State.closeWindow; split <;> simp
@[simp] theorem State.closeWindow_tb (s : State) : (s.closeWindow).tb = s.tb := by
  unfold State.closeWindow; split <;> simp
@[simp] theorem State.closeWindow_links (s : State) : (s.closeWindow).links = s.links := by
  unfold State.closeWindow; split <;> simp
@[simp] theorem State.closeWindow_hist (s : State) : (s.closeWindow).hist = s.hist := by
  unfold State.closeWindow; split <;> simp
@[simp] theorem State.closeWindow_delta (s : State) : (s.closeWindow).delta = s.delta := by
  unfold State.closeWindow; split <;> simp
@[simp] theorem State.closeWindow_ports (s : State) : (s.closeWindow).ports = s.ports := by
  unfold State.closeWindow; split <;> simp
@[simp] theorem State.closeWindow_cfg (s : State) : (s.closeWindow).cfg = s.cfg := by
  unfold State.closeWindow; split <;> simp
@[simp] theorem State.closeWindow_store (s : State) : (s.closeWindow).store = s.store := by
  unfold State.closeWindow; split <;> simp
@[simp] theorem State.closeWindow_medium (s : State) : (s.closeWindow).medium = s.medium := by
  unfold State.closeWindow; split <;> simp

/-! ## `replied` -/

@[simp] theorem State.replied_pending (s : State) (q : Req) (k : RequestKind) (r : Result) (y : Payload) : (s.replied q k r y).pending = s.pending := rfl
@[simp] theorem State.replied_power (s : State) (q : Req) (k : RequestKind) (r : Result) (y : Payload) : (s.replied q k r y).power = s.power := rfl
@[simp] theorem State.replied_tb (s : State) (q : Req) (k : RequestKind) (r : Result) (y : Payload) : (s.replied q k r y).tb = s.tb := rfl
@[simp] theorem State.replied_links (s : State) (q : Req) (k : RequestKind) (r : Result) (y : Payload) : (s.replied q k r y).links = s.links := rfl
@[simp] theorem State.replied_sel (s : State) (q : Req) (k : RequestKind) (r : Result) (y : Payload) : (s.replied q k r y).sel = s.sel := rfl
@[simp] theorem State.replied_hist (s : State) (q : Req) (k : RequestKind) (r : Result) (y : Payload) : (s.replied q k r y).hist = s.hist := rfl
@[simp] theorem State.replied_delta (s : State) (q : Req) (k : RequestKind) (r : Result) (y : Payload) : (s.replied q k r y).delta = s.delta := rfl
@[simp] theorem State.replied_ports (s : State) (q : Req) (k : RequestKind) (r : Result) (y : Payload) :
    (s.replied q k r y).ports = s.ports.set q.port { s.ports[q.port] with queue := s.ports[q.port].queue ++ [⟨Reply.immediate k q.tag r y, 0#8⟩] } := rfl
@[simp] theorem State.replied_cfg (s : State) (q : Req) (k : RequestKind) (r : Result) (y : Payload) : (s.replied q k r y).cfg = s.cfg := rfl
@[simp] theorem State.replied_store (s : State) (q : Req) (k : RequestKind) (r : Result) (y : Payload) : (s.replied q k r y).store = s.store := rfl
@[simp] theorem State.replied_medium (s : State) (q : Req) (k : RequestKind) (r : Result) (y : Payload) : (s.replied q k r y).medium = s.medium := rfl
@[simp] theorem State.replied_cond (s : State) (q : Req) (k : RequestKind) (r : Result) (y : Payload) : (s.replied q k r y).cond = s.cond := rfl
@[simp] theorem State.replied_arrivals (s : State) (q : Req) (k : RequestKind) (r : Result) (y : Payload) : (s.replied q k r y).arrivals = s.arrivals := rfl

/-! ## `served` -/

@[simp] theorem State.served_pending (s : State) (q : Req) (k : RequestKind) : (s.served q k).pending = s.pending := by
  unfold State.served State.endTransaction; split <;> rfl
@[simp] theorem State.served_power (s : State) (q : Req) (k : RequestKind) : (s.served q k).power = s.power := by
  unfold State.served State.endTransaction; split <;> rfl
@[simp] theorem State.served_tb (s : State) (q : Req) (k : RequestKind) : (s.served q k).tb = s.tb := by
  unfold State.served State.endTransaction; split <;> rfl
@[simp] theorem State.served_links (s : State) (q : Req) (k : RequestKind) : (s.served q k).links = s.links := by
  unfold State.served State.endTransaction; split <;> rfl
@[simp] theorem State.served_sel (s : State) (q : Req) (k : RequestKind) : (s.served q k).sel = s.sel := by
  unfold State.served State.endTransaction; split <;> rfl
@[simp] theorem State.served_hist (s : State) (q : Req) (k : RequestKind) : (s.served q k).hist = s.hist := by
  unfold State.served State.endTransaction; split <;> rfl
@[simp] theorem State.served_delta (s : State) (q : Req) (k : RequestKind) : (s.served q k).delta = s.delta := by
  unfold State.served State.endTransaction; split <;> rfl
@[simp] theorem State.served_cfg (s : State) (q : Req) (k : RequestKind) : (s.served q k).cfg = s.cfg := by
  unfold State.served State.endTransaction; split <;> rfl
@[simp] theorem State.served_store (s : State) (q : Req) (k : RequestKind) : (s.served q k).store = s.store := by
  unfold State.served State.endTransaction; split <;> rfl
@[simp] theorem State.served_medium (s : State) (q : Req) (k : RequestKind) : (s.served q k).medium = s.medium := by
  unfold State.served State.endTransaction; split <;> rfl
@[simp] theorem State.served_cond (s : State) (q : Req) (k : RequestKind) : (s.served q k).cond = s.cond := by
  unfold State.served State.endTransaction; split <;> rfl
@[simp] theorem State.served_arrivals (s : State) (q : Req) (k : RequestKind) : (s.served q k).arrivals = s.arrivals := by
  unfold State.served State.endTransaction; split <;> rfl

end Sys2Proof.Machine
end

