-- ==== Sys2Proof/Laws/Ops.lean ====
section
/-! SUPPORT. What each shared operation can do, said once: conditions, replies, transactions, completions, entries of
the context table, the lease, and window closes. -/

namespace Sys2Proof.Machine

/-! ## Events -/

theorem whileRunning_running (f : State → State) (s : State) (h : s.power = .running) :
    whileRunning f s = .next (f s) := by
  simp [whileRunning, h]

theorem whileRunning_stopped (f : State → State) (s : State) (h : s.power ≠ .running) : whileRunning f s = .next s := by
  simp [whileRunning, h]

@[simp] theorem withValue_eq {α : Type} (v : Nat) (k : Nat → α) : withValue v k = k v := by cases v <;> rfl

@[simp] theorem Pair.get_set_same {α : Type} (p : Pair α) (x : Head) (v : α) : (p.set x v).get x = v := by
  cases x <;> rfl

@[simp] theorem Pair.get_set_other {α : Type} (p : Pair α) (x : Head) (v : α) :
    (p.set x v).get x.other = p.get x.other := by
  cases x <;> rfl

@[simp] theorem Pair.set_get {α : Type} (p : Pair α) (x : Head) : p.set x (p.get x) = p := by cases x <;> rfl

@[simp] theorem Pair.set_set {α : Type} (p : Pair α) (x : Head) (v w : α) : (p.set x v).set x w = p.set x w := by
  cases x <;> rfl

/-! ## Conditions -/

theorem insertCond_mem (c d : Cond) (l : List Cond) : d ∈ insertCond c l ↔ d = c ∨ d ∈ l := by
  induction l with
  | nil => simp [insertCond]
  | cons e l ih =>
    simp only [insertCond]
    split
    · next h => subst h; simp
    · split <;> simp [ih]
      tauto

theorem Cond.index_injective (c d : Cond) (h : c.index = d.index) : c = d := by
  rcases c with ⟨_ | _⟩ | ⟨_ | _⟩ | ⟨_ | _⟩ | ⟨_ | _⟩ | ⟨_ | _⟩ | ⟨_ | _⟩ <;>
    rcases d with ⟨_ | _⟩ | ⟨_ | _⟩ | ⟨_ | _⟩ | ⟨_ | _⟩ | ⟨_ | _⟩ | ⟨_ | _⟩ <;> first | rfl | (exact absurd h (by decide))

theorem insertCond_sorted (c : Cond) (l : List Cond) (h : l.Pairwise fun a b => a.index < b.index) :
    (insertCond c l).Pairwise fun a b => a.index < b.index := by
  induction l with
  | nil => simp [insertCond]
  | cons e l ih =>
    rw [List.pairwise_cons] at h
    simp only [insertCond]
    split
    · exact List.pairwise_cons.2 h
    · next hne =>
      split
      · next hlt =>
        refine List.pairwise_cons.2 ⟨?_, List.pairwise_cons.2 h⟩
        intro a ha
        rcases List.mem_cons.1 ha with rfl | ha
        · exact hlt
        · exact hlt.trans (h.1 a ha)
      · next hge =>
        refine List.pairwise_cons.2 ⟨?_, ih h.2⟩
        intro a ha
        rcases (insertCond_mem c a l).1 ha with rfl | ha
        · exact lt_of_le_of_ne (not_lt.1 hge) fun e' => hne (Cond.index_injective _ _ e'.symm)
        · exact h.1 a ha

/-- A raise of a device condition puts it into every set and takes nothing out. -/
theorem State.mem_raise (s : State) (c d : Cond) (p : Port) :
    d ∈ (s.raise c).cond.sets[p] ↔ d = c ∨ d ∈ s.cond.sets[p] := by
  simp [Conditions.count, insertCond_mem]

/-- A raise of a port condition puts it into that port's set. -/
theorem State.mem_raisePort_same (s : State) (c d : Cond) (p : Port) :
    d ∈ (s.raisePort c p).cond.sets[p] ↔ d = c ∨ d ∈ s.cond.sets[p] := by
  simp [Conditions.count, insertCond_mem]

/-- A raise of a port condition leaves the other sets. -/
theorem State.raisePort_other (s : State) (c : Cond) (p q : Port) (h : p ≠ q) :
    (s.raisePort c p).cond.sets[q] = s.cond.sets[q] := by
  have : p.val ≠ q.val := fun e => h (Fin.ext e)
  simp [Conditions.count, this]

/-- A raise counts once (R162). -/
theorem State.count_raise (s : State) (c d : Cond) :
    (s.raise c).cond.counts[d.index] = if d = c then satInc s.cond.counts[d.index] else s.cond.counts[d.index] := by
  by_cases h : d = c
  · subst h; simp [Conditions.count]
  · have : c.index.val ≠ d.index.val := fun e => h (Cond.index_injective _ _ (Fin.ext e)).symm
    simp [Conditions.count, this, h]

/-! ## Replies -/

theorem State.appendReply_room (s : State) (p : Port) (r : Reply) (h : s.ports[p].queue.length < Config.replyDepth) :
    s.appendReply p r = s.modifyPort p fun q => { q with queue := q.queue ++ [⟨r, 0#8⟩] } := by
  simp only [State.appendReply, h, if_true]

theorem State.appendReply_full (s : State) (p : Port) (r : Reply) (h : ¬ s.ports[p].queue.length < Config.replyDepth) :
    s.appendReply p r = s.raisePort .replyLost p := by
  simp only [State.appendReply, h, if_false]

/-- A reply that arrives never leaves more than four waiting (R175). -/
theorem State.appendReply_bounded (s : State) (p q : Port) (r : Reply)
    (h : ∀ o : Port, s.ports[o].queue.length ≤ Config.replyDepth) :
    (s.appendReply p r).ports[q].queue.length ≤ Config.replyDepth := by
  by_cases hr : s.ports[p].queue.length < Config.replyDepth
  · rw [State.appendReply_room s p r hr]
    simp only [State.modifyPort_ports]
    by_cases e : p = q
    · subst e
      have : (s.ports[p]).queue.length + 1 ≤ Config.replyDepth := hr
      simpa using this
    · have : p.val ≠ q.val := fun e' => e (Fin.ext e')
      simpa [Vector.getElem_set, this] using h q
  · rw [State.appendReply_full s p r hr]
    simpa using h q

/-! ## Transactions -/

/-- The end of a transaction in progress: the rise of chip select, and then the request (R171). -/
theorem State.endTransaction_some (s : State) (p : Port) (n : Nat) (take : Bool → State → State) (t : Transaction)
    (h : s.ports[p].txn = some t) :
    s.endTransaction p n take = take t.early (s.endTransaction p n fun _ u => u) := by
  simp only [State.endTransaction, h]

/-- Without a transaction in progress only chip select rises (R184). -/
theorem State.endTransaction_none (s : State) (p : Port) (n : Nat) (take : Bool → State → State)
    (h : s.ports[p].txn = none) : s.endTransaction p n take = s.modifyPort p fun q => { q with csLow := false } := by
  simp only [State.endTransaction, h]

theorem State.inTransaction_some (s : State) (p : Port) (h : s.inTransaction p = true) :
    ∃ t, s.ports[p].txn = some t ∧ t.early = false := by
  unfold State.inTransaction at h
  split at h
  · cases h
  · next t ht => exact ⟨t, ht, by simpa using h⟩

/-- A request that the port takes and carries out (R174): the block's answer, and its reply. -/
theorem requestEnd_carried (r : Req) (k : RequestKind) (carry : State → Answer) (s : State)
    (ht : s.inTransaction r.port = true) (hd : s.store.device = .running ∨ k.inStarting = true) :
    requestEnd r k carry s =
      .next ((carry (s.served r k)).state.appendReply r.port
        (Reply.immediate k r.tag (carry (s.served r k)).result (carry (s.served r k)).payload)) := by
  obtain ⟨t, h1, h2⟩ := s.inTransaction_some r.port ht
  have hs : ¬ ((s.served r k).store.device = .starting ∧ k.inStarting = false) := by
    rw [State.served_store]
    rintro ⟨a, b⟩
    rcases hd with h | h
    · rw [a] at h; cases h
    · rw [b] at h; cases h
  simp only [requestEnd, State.endTransaction_some s _ _ _ t h1, h2, takeRequest, Bool.false_eq_true, if_false]
  rw [show (s.endTransaction r.port (Req.clocked r k) fun _ u => u) = s.served r k from rfl, if_neg hs]

/-- A request in STARTING, IDENTIFY and HEALTH_READ apart (R173). -/
theorem requestEnd_starting (r : Req) (k : RequestKind) (carry : State → Answer) (s : State)
    (ht : s.inTransaction r.port = true) (hd : s.store.device = .starting) (hk : k.inStarting = false) :
    requestEnd r k carry s =
      .next ((s.served r k).appendReply r.port (Reply.immediate k r.tag .notReady .none)) := by
  obtain ⟨t, h1, h2⟩ := s.inTransaction_some r.port ht
  have hs : (s.served r k).store.device = .starting ∧ k.inStarting = false := by
    rw [State.served_store]; exact ⟨hd, hk⟩
  simp only [requestEnd, State.endTransaction_some s _ _ _ t h1, h2, takeRequest, Bool.false_eq_true, if_false]
  rw [show (s.endTransaction r.port (Req.clocked r k) fun _ u => u) = s.served r k from rfl, if_pos hs]

/-- Data out carries one byte for each whole byte clocked (R169). -/
@[simp] theorem Transaction.dataOut_length (t : Transaction) (n : Nat) : (t.dataOut n).length = n := by
  simp [Transaction.dataOut]; omega

/-- A transaction clocked past its reply sends the reply and then 00h (R169). -/
theorem Transaction.dataOut_whole (t : Transaction) (n : Nat) (h : t.bytes.length ≤ n) :
    t.dataOut n = t.bytes ++ List.replicate (n - t.bytes.length) 0#8 := by
  simp [Transaction.dataOut, List.take_of_length_le h]

/-- A transaction clocked for less than its reply sends the first bytes of it (R169). -/
theorem Transaction.dataOut_cut (t : Transaction) (n : Nat) (h : n ≤ t.bytes.length) : t.dataOut n = t.bytes.take n := by
  simp [Transaction.dataOut, Nat.sub_eq_zero_of_le h]

/-- What a transaction's end leaves of its own port (R171, R184). -/
theorem State.served_port (s : State) (r : Req) (k : RequestKind) :
    (s.served r k).ports[r.port] =
      match s.ports[r.port].txn with
      | none => { s.ports[r.port] with csLow := false }
      | some t =>
        { s.ports[r.port] with
          csLow := false, txn := none,
          queue :=
            if t.sentWhole (Req.clocked r k) then s.ports[r.port].queue.tail else s.ports[r.port].queue,
          sent := t.dataOut (Req.clocked r k), lastEnd := some s.tb.counter } := by
  unfold State.served State.endTransaction
  split <;> simp_all [State.now]

/-- A transaction is EARLY exactly when one of its port ended less than 2 µs before (R172). -/
theorem State.earlyFall_iff (s : State) (p : Port) (sooner : Bool) :
    s.earlyFall p sooner = true ↔
      ∃ e, s.ports[p].lastEnd = some e ∧ (s.since e < 2 ∨ s.since e = 2 ∧ sooner = true) := by
  unfold State.earlyFall
  split <;> simp_all only [Bool.or_eq_true, Bool.and_eq_true, decide_eq_true_eq] <;> simp [Config.earlyLimit]

/-- The end of WRITING leaves the check of its slot erased, whatever the medium did (R149). -/
@[simp] theorem MediumOutcome.apply_check (m : MediumOutcome) (c : Commit) (slot : SlotContents) :
    (MediumOutcome.apply m c slot).check = slot.check := by
  cases m <;> rfl

/-- A transaction's end leaves the other ports. -/
theorem State.served_other (s : State) (r : Req) (k : RequestKind) (q : Port) (h : r.port ≠ q) :
    (s.served r k).ports[q] = s.ports[q] := by
  have : r.port.val ≠ q.val := fun e => h (Fin.ext e)
  unfold State.served State.endTransaction
  split <;> simp [this]

/-- A request that finds its port ready is answered at once. -/
theorem requestEnd_ready (r : Req) (k : RequestKind) (carry : State → Answer) (s : State) (h : Ready r k s = true)
    (hq : (carry (s.served r k)).state.ports[r.port].queue = (s.served r k).ports[r.port].queue) :
    requestEnd r k carry s =
      .next ((carry (s.served r k)).state.replied r k (carry (s.served r k)).result (carry (s.served r k)).payload) := by
  simp only [Ready, Bool.and_eq_true, Bool.or_eq_true, decide_eq_true_eq] at h
  rw [requestEnd_carried r k carry s h.1.1 h.1.2, State.appendReply_room _ _ _ (by rw [hq]; exact h.2)]
  rfl

/-! ## Entries of the context table -/

/-- Putting back an entry that stays writes that entry alone. -/
theorem State.putEntry_keeps (s : State) (n : CtxNum) (c : Context) :
    s.putEntry n (.keeps c) = s.setContext n (some c) := rfl

/-- Putting back an entry that closed frees it and sends FAILED (R10). -/
theorem State.putEntry_closes (s : State) (n : CtxNum) (owner : Port) (tag : Byte) (record : DeltaRecord) (d : Nat) :
    s.putEntry n (.closes owner tag record d) =
      (s.setContext n none).complete owner (Reply.completion .deltaOpen tag .failed (.deltaClosed d record)) := rfl

/-! ## The lease -/

/-- The end of a lease without a waiter leaves it FREE (R124). -/
theorem State.endLease_free (s : State) (h : s.cfg.waiters = []) :
    s.endLease = { s with cfg := { s.cfg with lease := none } } := by
  simp [State.endLease, State.grantNext, h]

/-- The end of a lease with a waiter grants the oldest one (R127). -/
theorem State.endLease_waiter (s : State) (w : Waiter) (rest : List Waiter) (h : s.cfg.waiters = w :: rest) :
    s.endLease =
      ({ s with
          cfg :=
            { s.cfg with
              lease := some ⟨w.port, s.expiryAfter w.period, s.cfg.active⟩, waiters := rest } } : State).complete
        w.port (Reply.completion .leaseAcquire w.tag .granted (.leasePeriod w.period s.cfg.epoch)) := by
  simp [State.endLease, State.grantNext, h, State.grant, State.complete, State.expiryAfter, State.now]

/-! ## Links in the health snapshot -/

/-- During STARTING a link is reported at its part-reset values (R167). -/
theorem State.linkReport_starting (s : State) (x : Head) (h : s.store.device = .starting) :
    s.linkReport x = Link.reset.report := if_pos h

/-- From the end of the load a link is reported as it stands (R167). -/
theorem State.linkReport_running (s : State) (x : Head) (h : s.store.device = .running) :
    s.linkReport x = (s.links.get x).report := if_neg (by simp [h])

/-! ## Strobes at a timing change -/

/-- An overdue strobe is an internal one, or that of the fallback check, and otherwise there is none (R116). -/
theorem State.issueOverdue_cases (s : State) :
    s.issueOverdue = s
      ∨ (s.tb.internallyTimed = true ∧ s.refPassed (s.tb.period + 1) = true ∧ s.issueOverdue = freeStrobe s)
      ∨ (s.tb.internallyTimed = false ∧ s.refPassed (4 * s.tb.period + 1) = true ∧ s.issueOverdue = fallbackCheck s) := by
  unfold State.issueOverdue
  split
  · next h => split <;> simp_all
  · next h => split <;> simp_all

/-- A timing change with the items in force changes nothing (R116). -/
theorem State.changeTiming_same (s : State) (g : Timing) (h : s.tb.timing = some g) : s.changeTiming g = s := by
  simp [State.changeTiming, h]

/-- Any other timing change sets TB by the table of R116 and issues a strobe that is overdue. -/
theorem State.changeTiming_other (s : State) (g : Timing) (h : s.tb.timing ≠ some g) :
    s.changeTiming g = ({ s with tb := s.tb.retime g } : State).issueOverdue := by
  simp [State.changeTiming, h]

/-! ## The end of a head command -/

/-- A command that ends empties the slot, leaves its outcome as the last result, raises HEAD_SELF_TEST_FAIL for a FAIL, and
sends its COMPLETION to a host that waits for it (R95, R97, R99, R100). -/
theorem State.endCommand_eq (x : Head) (r : Result) (d : CommandDetail) (s : State) :
    s.endCommand x r d =
      { s with
        links := s.links.set x { s.links.get x with slot := none, lastResult := (s.links.get x).resultAfter r d },
        cond :=
          if r = .fail ∧ (s.links.get x).slot ≠ none then (s.raise (.headSelfTestFail x)).cond else s.cond,
        arrivals :=
          { s.arrivals with completions := s.arrivals.completions ++ (s.links.get x).completionOf x r d } } := by
  unfold State.endCommand Link.resultAfter Link.completionOf
  cases h : (s.links.get x).slot with
  | none =>
    have : s.links.set x { s.links.get x with slot := none, lastResult := (s.links.get x).lastResult } = s.links := by
      rw [← h]; exact Pair.set_get _ _
    simp [this]
  | some c =>
    rcases c with ⟨k, o, f, t⟩
    by_cases hr : r = .fail <;> cases o with
    | internal => simp [State.raiseIf, hr, State.modifyLink, State.raise]
    | host p tag => cases f <;> simp [State.raiseIf, hr, State.modifyLink, State.complete, State.raise]

/-! ## Windows -/

/-- A close without a strobe does nothing; any other makes one publication (R48, R63). -/
theorem State.closeWindow_some (s : State) (strobe : Strobe) (h : s.sel.current = some strobe) :
    s.closeWindow =
      ({ s with
          sel := (s.closing strobe).2
          arrivals :=
            { s.arrivals with
              misses := s.sel.chargeMisses s.arrivals.misses
              appends := s.arrivals.appends ++ [(s.closing strobe).1]
              atDelta := s.arrivals.atDelta ++ [(s.closing strobe).1]
              atCond :=
                s.arrivals.atCond ++
                  [⟨(s.closing strobe).2.source = none, (s.closing strobe).2.agreement = .disagree⟩] } } : State).raiseIf
        (s.closing strobe).1.flags.sourceChange .sourceSwitch := by
  simp only [State.closeWindow, h]

/-- The publication of a close carries the publication counter, which then advances (R48). -/
theorem State.closing_number (s : State) (strobe : Strobe) :
    (s.closing strobe).1.number = s.sel.counter ∧ (s.closing strobe).2.counter = s.sel.counter + 1 := ⟨rfl, rfl⟩

end Sys2Proof.Machine
end

