-- ==== Sys2Proof/Laws/History.lean ====
section
/-! SUPPORT. The history ring keeps its form: the drop of the oldest record and the placing of a new one leave a run of
consecutive numbers that ends before next (R25, R26). -/

namespace Sys2Proof.Machine

/-- The overrun of a port changes no record and not next (R29). -/
theorem State.overrunPort_ring (s : State) (dropped : PubNum) (p : Port) :
    (s.overrunPort dropped p).hist.records = s.hist.records ∧ (s.overrunPort dropped p).hist.next = s.hist.next := by
  unfold State.overrunPort
  split <;> exact ⟨rfl, rfl⟩

/-- Step 1 of an append on a full ring takes the oldest record alone (R26). -/
theorem State.dropOldest_ring (s : State) :
    s.dropOldest.hist.records = s.hist.records.tail ∧ s.dropOldest.hist.next = s.hist.next := by
  unfold State.dropOldest
  simp only [State.overrunPort_ring, and_self]

/-- Any run of consecutive numbers keeps that form without its first record. -/
theorem History.Consecutive.tail {h : History} (hc : h.Consecutive) :
    ({ h with records := h.records.tail } : History).Consecutive := by
  refine ⟨by simpa using Nat.le_succ_of_le hc.1 |> (Nat.sub_le_of_le_add ·), fun k => ?_⟩
  have hk : k.val < h.records.length - 1 := by simpa using k.isLt
  have := hc.2 ⟨k.val + 1, by omega⟩
  simp only [Fin.getElem_fin, List.getElem_tail, List.length_tail] at this ⊢
  rw [this]
  congr 2
  omega

/-- Placing the record numbered next at the newest end keeps the form (R26). -/
theorem History.Consecutive.place {h : History} (hc : h.Consecutive) (p : Publication) (readers : Vector Reader 4)
    (room : h.records.length < Config.historyCapacity) (hp : p.number = h.next) :
    (⟨h.records ++ [p], h.next + 1, readers⟩ : History).Consecutive := by
  refine ⟨by simpa using room, fun k => ?_⟩
  have hk : k.val < h.records.length + 1 := by simpa using k.isLt
  simp only [Fin.getElem_fin, List.getElem_append, List.length_append, List.length_singleton]
  split
  · next hlt =>
    have := hc.2 ⟨k.val, hlt⟩
    simp only [Fin.getElem_fin] at this
    rw [this]
    have e : h.records.length + 1 - k.val = (h.records.length - k.val) + 1 := by omega
    rw [e]
    generalize h.records.length - k.val = m
    bv_omega
  · next hge =>
    have e : h.records.length + 1 - k.val = 1 := by omega
    simp [e, hp]

/-- An append keeps the ring in form (R25, R26). -/
theorem State.appendRecord_consecutive (s : State) (p : Publication) (hc : s.hist.Consecutive)
    (hp : p.number = s.hist.next) : (s.appendRecord p).hist.Consecutive := by
  unfold State.appendRecord State.placeRecord
  by_cases full : Config.historyCapacity ≤ s.hist.records.length
  · simp only [full, if_true, State.dropOldest_ring]
    refine History.Consecutive.place (h := { s.hist with records := s.hist.records.tail }) hc.tail p _ ?_ hp
    have := hc.1
    simp only [List.length_tail, Config.historyCapacity] at *
    omega
  · simp only [full, if_false]
    exact hc.place p _ (Nat.lt_of_not_le full) hp

end Sys2Proof.Machine
end

