-- ==== Sys2Proof/Laws/PerInstr.lean ====
section
/-! SUPPORT. Facts about every command as syntax, one lemma for each constructor: the payload of a request has the one
length its kind allows (R187). -/

namespace Sys2Proof.Laws

/-- A field has the bytes it says. -/
@[simp] theorem length_field {w : Nat} (n : Nat) (v : BitVec w) : (Machine.field n v).length = n := by
  unfold Machine.field
  generalize v.toNat = k
  induction n with
  | zero => rfl
  | succ n ih => simp [Machine.beBytes, ih]

/-- A request's payload is as long as its kind says (R187). -/
def PayloadLength.Statement (i : Instr) : Prop :=
  ∀ r k payload, requestOf i = some (r, k, payload) → payload.length = k.length

theorem PayloadLength.partReset : ∀ a, PayloadLength.Statement (Instr.partReset a) := by
  intro a r k payload h
  cases h

theorem PayloadLength.resetRelease : PayloadLength.Statement (Instr.resetRelease) := by
  intro r k payload h
  cases h

theorem PayloadLength.startUpLoad : PayloadLength.Statement (Instr.startUpLoad) := by
  intro r k payload h
  cases h

theorem PayloadLength.chipSelectFall : ∀ a b, PayloadLength.Statement (Instr.chipSelectFall a b) := by
  intro a b r k payload h
  cases h

theorem PayloadLength.nop : ∀ a b, PayloadLength.Statement (Instr.nop a b) := by
  intro a b r k payload h
  cases h

theorem PayloadLength.malformedRequest : ∀ a b, PayloadLength.Statement (Instr.malformedRequest a b) := by
  intro a b r k payload h
  cases h

theorem PayloadLength.identify : ∀ a, PayloadLength.Statement (Instr.identify a) := by
  intro a r k payload h
  cases h
  simp [RequestKind.length]

theorem PayloadLength.portReset : ∀ a, PayloadLength.Statement (Instr.portReset a) := by
  intro a r k payload h
  cases h
  simp [RequestKind.length]

theorem PayloadLength.setAttention : ∀ a b, PayloadLength.Statement (Instr.setAttention a b) := by
  intro a b r k payload h
  cases h
  simp [RequestKind.length]

theorem PayloadLength.condRead : ∀ a, PayloadLength.Statement (Instr.condRead a) := by
  intro a r k payload h
  cases h
  simp [RequestKind.length]

theorem PayloadLength.healthRead : ∀ a, PayloadLength.Statement (Instr.healthRead a) := by
  intro a r k payload h
  cases h
  simp [RequestKind.length]

theorem PayloadLength.timeRead : ∀ a, PayloadLength.Statement (Instr.timeRead a) := by
  intro a r k payload h
  cases h
  simp [RequestKind.length]

theorem PayloadLength.histRead : ∀ a b, PayloadLength.Statement (Instr.histRead a b) := by
  intro a b r k payload h
  cases h
  simp [RequestKind.length]

theorem PayloadLength.histPeek : ∀ a, PayloadLength.Statement (Instr.histPeek a) := by
  intro a r k payload h
  cases h
  simp [RequestKind.length]

theorem PayloadLength.histSeek : ∀ a b c, PayloadLength.Statement (Instr.histSeek a b c) := by
  intro a b c r k payload h
  cases h
  simp [RequestKind.length]

theorem PayloadLength.histWatermark : ∀ a b, PayloadLength.Statement (Instr.histWatermark a b) := by
  intro a b r k payload h
  cases h
  simp [RequestKind.length]

theorem PayloadLength.deltaOpen : ∀ a b c d e, PayloadLength.Statement (Instr.deltaOpen a b c d e) := by
  intro a b c d e r k payload h
  cases h
  simp [RequestKind.length]

theorem PayloadLength.deltaTake : ∀ a b, PayloadLength.Statement (Instr.deltaTake a b) := by
  intro a b r k payload h
  cases h
  simp [RequestKind.length]

theorem PayloadLength.deltaCollect : ∀ a b, PayloadLength.Statement (Instr.deltaCollect a b) := by
  intro a b r k payload h
  cases h
  simp [RequestKind.length]

theorem PayloadLength.deltaClose : ∀ a b c, PayloadLength.Statement (Instr.deltaClose a b c) := by
  intro a b c r k payload h
  cases h
  simp [RequestKind.length]

theorem PayloadLength.deltaStatus : ∀ a b, PayloadLength.Statement (Instr.deltaStatus a b) := by
  intro a b r k payload h
  cases h
  simp [RequestKind.length]

theorem PayloadLength.calRead : ∀ a b c, PayloadLength.Statement (Instr.calRead a b c) := by
  intro a b c r k payload h
  cases h
  simp [RequestKind.length]

theorem PayloadLength.headIdent : ∀ a b, PayloadLength.Statement (Instr.headIdent a b) := by
  intro a b r k payload h
  cases h
  simp [RequestKind.length]

theorem PayloadLength.headTest : ∀ a b, PayloadLength.Statement (Instr.headTest a b) := by
  intro a b r k payload h
  cases h
  simp [RequestKind.length]

theorem PayloadLength.leaseAcquire : ∀ a b c, PayloadLength.Statement (Instr.leaseAcquire a b c) := by
  intro a b c r k payload h
  cases h
  simp [RequestKind.length]

theorem PayloadLength.leaseRelease : ∀ a, PayloadLength.Statement (Instr.leaseRelease a) := by
  intro a r k payload h
  cases h
  simp [RequestKind.length]

theorem PayloadLength.stageCal : ∀ a b c d, PayloadLength.Statement (Instr.stageCal a b c d) := by
  intro a b c d r k payload h
  cases h
  simp [RequestKind.length, Mat3.toList, Triple.toList]

theorem PayloadLength.stageSource : ∀ a b c, PayloadLength.Statement (Instr.stageSource a b c) := by
  intro a b c r k payload h
  cases h
  simp [RequestKind.length]

theorem PayloadLength.stageThresholds : ∀ a b c, PayloadLength.Statement (Instr.stageThresholds a b c) := by
  intro a b c r k payload h
  cases h
  simp [RequestKind.length]

theorem PayloadLength.stageTiming : ∀ a b c d, PayloadLength.Statement (Instr.stageTiming a b c d) := by
  intro a b c d r k payload h
  cases h
  simp [RequestKind.length]

theorem PayloadLength.stageRead : ∀ a, PayloadLength.Statement (Instr.stageRead a) := by
  intro a r k payload h
  cases h
  simp [RequestKind.length]

theorem PayloadLength.stageDiscard : ∀ a, PayloadLength.Statement (Instr.stageDiscard a) := by
  intro a r k payload h
  cases h
  simp [RequestKind.length]

theorem PayloadLength.activate : ∀ a, PayloadLength.Statement (Instr.activate a) := by
  intro a r k payload h
  cases h
  simp [RequestKind.length]

theorem PayloadLength.storeCommit : ∀ a, PayloadLength.Statement (Instr.storeCommit a) := by
  intro a r k payload h
  cases h
  simp [RequestKind.length]

theorem PayloadLength.storeStatus : ∀ a, PayloadLength.Statement (Instr.storeStatus a) := by
  intro a r k payload h
  cases h
  simp [RequestKind.length]

theorem PayloadLength.erasingEnd : PayloadLength.Statement (Instr.erasingEnd) := by
  intro r k payload h
  cases h

theorem PayloadLength.writingEnd : ∀ a, PayloadLength.Statement (Instr.writingEnd a) := by
  intro a r k payload h
  cases h

theorem PayloadLength.verifyingEnd : PayloadLength.Statement (Instr.verifyingEnd) := by
  intro r k payload h
  cases h

theorem PayloadLength.completionArrival : ∀ a, PayloadLength.Statement (Instr.completionArrival a) := by
  intro a r k payload h
  cases h

theorem PayloadLength.leaseExpiry : PayloadLength.Statement (Instr.leaseExpiry) := by
  intro r k payload h
  cases h

theorem PayloadLength.freeStrobe : PayloadLength.Statement (Instr.freeStrobe) := by
  intro r k payload h
  cases h

theorem PayloadLength.syncEdge : PayloadLength.Statement (Instr.syncEdge) := by
  intro r k payload h
  cases h

theorem PayloadLength.fallbackCheck : PayloadLength.Statement (Instr.fallbackCheck) := by
  intro r k payload h
  cases h

theorem PayloadLength.syncPulse : PayloadLength.Statement (Instr.syncPulse) := by
  intro r k payload h
  cases h

theorem PayloadLength.scheduledStrobe : PayloadLength.Statement (Instr.scheduledStrobe) := by
  intro r k payload h
  cases h

theorem PayloadLength.virtualOrigin : PayloadLength.Statement (Instr.virtualOrigin) := by
  intro r k payload h
  cases h

theorem PayloadLength.holdoverDeadline : PayloadLength.Statement (Instr.holdoverDeadline) := by
  intro r k payload h
  cases h

theorem PayloadLength.holdoverEnd : PayloadLength.Statement (Instr.holdoverEnd) := by
  intro r k payload h
  cases h

theorem PayloadLength.timingChange : PayloadLength.Statement (Instr.timingChange) := by
  intro r k payload h
  cases h

theorem PayloadLength.strobeAtSel : PayloadLength.Statement (Instr.strobeAtSel) := by
  intro r k payload h
  cases h

theorem PayloadLength.strobeAtLink : ∀ a, PayloadLength.Statement (Instr.strobeAtLink a) := by
  intro a r k payload h
  cases h

theorem PayloadLength.sample : ∀ a b, PayloadLength.Statement (Instr.sample a b) := by
  intro a b r k payload h
  cases h

theorem PayloadLength.response : ∀ a b, PayloadLength.Statement (Instr.response a b) := by
  intro a b r k payload h
  cases h

theorem PayloadLength.crcError : ∀ a b, PayloadLength.Statement (Instr.crcError a b) := by
  intro a b r k payload h
  cases h

theorem PayloadLength.commandTimeout : ∀ a, PayloadLength.Statement (Instr.commandTimeout a) := by
  intro a r k payload h
  cases h

theorem PayloadLength.miss : ∀ a, PayloadLength.Statement (Instr.miss a) := by
  intro a r k payload h
  cases h

theorem PayloadLength.append : PayloadLength.Statement (Instr.append) := by
  intro r k payload h
  cases h

theorem PayloadLength.publicationAtDelta : PayloadLength.Statement (Instr.publicationAtDelta) := by
  intro r k payload h
  cases h

theorem PayloadLength.walkStep : ∀ a, PayloadLength.Statement (Instr.walkStep a) := by
  intro a r k payload h
  cases h

theorem PayloadLength.dropAtDelta : PayloadLength.Statement (Instr.dropAtDelta) := by
  intro r k payload h
  cases h

theorem PayloadLength.levelReEvaluation : PayloadLength.Statement (Instr.levelReEvaluation) := by
  intro r k payload h
  cases h

theorem PayloadLength.powerLoss : PayloadLength.Statement (Instr.powerLoss) := by
  intro r k payload h
  cases h

end Sys2Proof.Laws
end

