-- ==== Sys2Proof/WellFormed.lean ====
section
/-! DEFINITION. Which terms are commands of the hub. Operands are bounded by their types; three commands carry
strings of bytes that must be what the command's name says. -/

namespace Sys2Proof

/-- A MALFORMED_REQUEST carries bytes that R172 refuses, a CRC_ERROR bytes that are no upstream message (R83),
and a spoiled slot an image of 208 bytes (11.7). -/
def Instr.wf : Instr → Bool
  | .malformedRequest p bytes =>
    match decodeRequest p bytes with
    | .nothing => false
    | .request _ => false
    | .frameError _ => true
    | .unknownKind => true
    | .badLength => true
  | .crcError x bytes => (decodeUpstream x bytes).isNone
  | .writingEnd (.spoiled _ (some image)) => image.length = 208
  | .writingEnd (.spoiled _ none) => true
  | .writingEnd .sound => true
  | .identify _ | .portReset _ | .setAttention _ _ | .condRead _ | .healthRead _ | .timeRead _ | .histRead _ _
  | .histPeek _ | .histSeek _ _ _ | .histWatermark _ _ | .deltaOpen _ _ _ _ _ | .deltaTake _ _ | .deltaCollect _ _
  | .deltaClose _ _ _ | .deltaStatus _ _ | .calRead _ _ _ | .headIdent _ _ | .headTest _ _ | .leaseAcquire _ _ _
  | .leaseRelease _ | .stageCal _ _ _ _ | .stageSource _ _ _ | .stageThresholds _ _ _ | .stageTiming _ _ _ _
  | .stageRead _ | .stageDiscard _ | .activate _ | .storeCommit _ | .storeStatus _ | .partReset _ | .resetRelease
  | .startUpLoad | .chipSelectFall _ _ | .nop _ _ | .erasingEnd | .verifyingEnd | .completionArrival _ | .leaseExpiry
  | .freeStrobe | .syncEdge | .fallbackCheck | .syncPulse | .scheduledStrobe | .virtualOrigin | .holdoverDeadline
  | .holdoverEnd | .timingChange | .strobeAtSel | .strobeAtLink _ | .sample _ _ | .response _ _ | .commandTimeout _
  | .miss _ | .append | .publicationAtDelta | .walkStep _ | .dropAtDelta | .levelReEvaluation | .powerLoss => true

end Sys2Proof
end

