-- ==== Sys2Proof/Tests/Slice0.lean ====
section
/-! SUPPORT. Tests. Part 1: expected values from the manual's own examples, each with its source. Part 2: the smoke
test of WellFormed. Part 3: for each statement with hypotheses, states and operands that meet them, clause by clause at
the ends of the ranges. -/

namespace Sys2Proof.Tests

-- One theorem at a time: the check gives every concurrent one a large stack of its own.
set_option Elab.async false

open Sys2Proof Sys2Proof.Machine

/-! ## States to start from -/

/-- RUNNING and loaded from the factory records and blank slots, strobing in FREE at 2000 per second, every port in a
transaction that sends the filler. -/
def live : State :=
  { State.reset with
    power := .running,
    tb :=
      { TimeBase.reset with
        counter := 1000000#48, strobing := true, timing := some ⟨.r2000, .free, 1#16⟩, refTime := some 999500#48,
        strobeIssued := true, strobeNumber := 17#8 },
    store :=
      { Store.reset with
        device := .running, state := .idle, factory := ⟨some FactoryRecord.fitted, some FactoryRecord.fitted⟩,
        factoryValidity := ⟨.valid, .valid⟩, slotValidity := Vector.replicate 2 .blank, loadOutcome := .blank },
    ports := Vector.replicate 4 ⟨true, some ⟨false, [], false⟩, [], AttnSet.default, [], none⟩ }

def Out.state (o : Out) : State :=
  match o with
  | .next t => t
  | .fault _ => State.reset
  | .refused _ => State.reset

/-- The state after a command. -/
def after (i : Instr) (s : State) : State := Out.state (exec i s)

/-- A request with tag 7 and no padding. -/
def ask (p : Port) : Req := ⟨p, 7#8, 0⟩

/-- `live` with the lease held by port 0, another image staged, and ports 1 and 3 waiting. -/
def held : State :=
  { live with
    cfg :=
      { live.cfg with
        lease := some ⟨0, 1000000#48, { Image.default with timing := ⟨.r500, .direct, 0#16⟩ }⟩,
        waiters := [⟨1, 9#8, 100#16⟩, ⟨3, 4#8, 60000#16⟩] } }

/-- `live` in SCALED, LOCKED at A with interval I, at `since` microseconds after A, with S as given. -/
def locked (lock : LockState) (i s since : Nat) (sch : Schedule) : State :=
  { live with
    tb :=
      { live.tb with
        counter := 10000#48 + BitVec.ofNat 48 since, timing := some ⟨.r2000, .scaled, BitVec.ofNat 16 s⟩, lock := lock,
        lockRef := some ⟨10000#48, BitVec.ofNat 48 i, 0#16⟩, schedule := some sch, refTime := some 9000#48 } }

/-! ## Part 1: the manual's examples -/

/-- Section 11.1: the CRC-16 of "123456789" is 29B1h. -/
theorem test_crc16_check_value :
    crc16 [0x31#8, 0x32#8, 0x33#8, 0x34#8, 0x35#8, 0x36#8, 0x37#8, 0x38#8, 0x39#8] = 0x29B1#16 := by decide +kernel

/-- Section 11.1: the CRC-32 of "123456789" is FC891918h. -/
theorem test_crc32_check_value :
    crc32 [0x31#8, 0x32#8, 0x33#8, 0x34#8, 0x35#8, 0x36#8, 0x37#8, 0x38#8, 0x39#8] = 0xFC891918#32 := by
  decide +kernel

/-- Section 10.6 and 11.3: the bytes of one request of each family, written out, are read as that request. The check
bytes are the CRC-16 of those before them. -/
theorem test_requests_are_decoded :
    decodeRequest 2 (sealed [0x10#8, 1#8, 1#8, 4#8]) = .request (.histRead ⟨2, 1#8, 0⟩ 4#8)
      ∧ decodeRequest 0 (sealed [0x03#8, 5#8, 1#8, 0x0F#8] ++ [9#8]) = .request (.setAttention ⟨0, 5#8, 1⟩ 0x0F#8)
      ∧ decodeRequest 1 (sealed [0x09#8, 0#8, 0#8]) = .request (.healthRead ⟨1, 0#8, 0⟩)
      ∧ decodeRequest 1
          (sealed [0x20#8, 2#8, 11#8, 1#8, 1#8, 0#8, 4#8, 1#8, 0#8, 0#8, 0#8, 0#8, 0#8, 100#8]) =
          .request (.deltaOpen ⟨1, 2#8, 0⟩ 0x0101#16 4#16 1#8 100#48)
      ∧ decodeRequest 3 (sealed [0x31#8, 3#8, 1#8, 1#8]) = .request (.headIdent ⟨3, 3#8, 0⟩ 1#8)
      ∧ decodeRequest 2 (sealed [0x40#8, 4#8, 3#8, 1#8, 0x07#8, 0xD0#8]) =
          .request (.leaseAcquire ⟨2, 4#8, 0⟩ 1#8 2000#16)
      ∧ decodeRequest 2 (sealed [0x44#8, 6#8, 8#8, 0#8, 0#8, 1#8, 0#8, 0x7F#8, 0xFF#8, 0xFF#8, 0xFF#8]) =
          .request (.stageThresholds ⟨2, 6#8, 0⟩ 256#32 2147483647#32)
      ∧ decodeRequest 0 (sealed [0x50#8, 8#8, 0#8]) = .request (.storeCommit ⟨0, 8#8, 0⟩) := by decide +kernel

/-- Section 11.8: the bytes of a SAMPLE and of a SELF_TEST response, written out, are read as those frames. -/
theorem test_upstream_frames_are_decoded :
    decodeUpstream .B
        (sealed
          [0x01#8, 23#8, 0x80#8, 0#8, 0#8, 1#8, 0xFF#8, 0xFF#8, 0xFE#8, 0#8, 0#8, 3#8, 0#8, 0#8, 4#8, 0#8, 0#8, 5#8, 0#8,
            0#8, 6#8, 0x01#8, 0x02#8]) =
        some (.sample .B ⟨23#8, 0x80#8, ⟨1#24, -2#24, 3#24⟩, ⟨4#24, 5#24, 6#24⟩, 0x0102#16⟩)
      ∧ decodeUpstream .A (sealed [0x02#8, 2#8, 1#8, 0x21#8]) = some (.response .A (.selfTest 1#8 0x21#8)) := by
  decide +kernel

/-- The factory and user gyro records of section 4.7. -/
def record47 : FactoryRecord × UserRecord :=
  ({ FactoryRecord.zero with
      gyroMatrix :=
        ⟨⟨1073741824#32, 8388608#32, 0#32⟩, ⟨0#32, 1073741824#32, 0#32⟩, ⟨4194304#32, 0#32, 1065353216#32⟩⟩,
      gyroBias := ⟨100#24, -50#24, 0#24⟩ },
    { UserRecord.default with
      gyroAlign :=
        ⟨⟨1073741824#32, 1048576#32, 0#32⟩, ⟨0#32, 1073741824#32, 0#32⟩, ⟨0#32, 1048576#32, 1073741824#32⟩⟩,
      gyroTrim := ⟨-100#32, 30#32, -1000#32⟩ })

/-- Section 4.7: the first stage gives (63500, −64000, 695), the second (63338, −63970, −368), and nothing is clipped. -/
theorem test_calibration_example :
    factoryStage record47.1.gyroMatrix record47.1.gyroBias ⟨1100#24, -1050#24, 7#24⟩ = ⟨63500, -64000, 695⟩
      ∧ calibrate record47.1 record47.2 ⟨0#8, 0#8, ⟨1100#24, -1050#24, 7#24⟩, ⟨0#24, 0#24, 0#24⟩, 0#16⟩ =
          ⟨⟨63338#32, -63970#32, -368#32⟩, ⟨0#32, 0#32, 0#32⟩, false⟩ := by decide +kernel

/-- Section 4.8: an accel x of 2,400,000,000 is clipped to 2^31 − 1 with the clip indication. -/
theorem test_clip_example :
    (calibrate FactoryRecord.fitted
        { UserRecord.default with
          accelAlign := ⟨⟨1610612736#32, 1610612736#32, 0#32⟩, identityAlign.y, identityAlign.z⟩ }
        ⟨0#8, 0#8, ⟨0#24, 0#24, 0#24⟩, ⟨8000000#24, 8000000#24, 0#24⟩, 0#16⟩) =
      ⟨⟨0#32, 0#32, 0#32⟩, ⟨2147483647#32, 800000000#32, 0#32⟩, true⟩ := by decide +kernel

/-- Section 6.9: a pulse at 12,003 is accepted with I 2003 and tag (1, 0); the window of 14,006 closes at 14,027 with tag
(2, 0); and the holdover deadline falls at 14,107, not a microsecond earlier. -/
theorem test_scaled_example :
    (after .syncPulse (locked .locked 2000 3 2003 ⟨10000#48, 3#16, 0#16, 1⟩)).tb.lockRef = some ⟨12003#48, 2003#48, 1#16⟩
      ∧ ((after .syncPulse (locked .locked 2000 3 2003 ⟨10000#48, 3#16, 0#16, 1⟩)).arrivals.strobesToSel.map Strobe.tag) =
          [some ⟨1#16, 0#16⟩]
      ∧ (locked .locked 2003 3 2023 ⟨10000#48, 3#16, 1#16, 1⟩).virtualOriginDue = false
      ∧ (locked .locked 2003 3 2024 ⟨10000#48, 3#16, 1#16, 1⟩).virtualOriginDue = true
      ∧ (locked .locked 2003 3 2103 ⟨10000#48, 3#16, 1#16, 2⟩).holdoverDeadlineDue = false
      ∧ (locked .locked 2003 3 2104 ⟨10000#48, 3#16, 1#16, 2⟩).holdoverDeadlineDue = true := by decide +kernel

/-- Section 6.10: `live` in DIRECT at 1000 per second, so many microseconds after the last strobe. -/
def direct (state : FallbackState) (since : Nat) : State :=
  { live with
    tb :=
      { live.tb with
        timing := some ⟨.r1000, .direct, 0#16⟩, fallback := state, refTime := some 50000#48,
        counter := 50000#48 + BitVec.ofNat 48 since } }

/-- Section 6.10: no check before 4000 µs, FALLBACK with SYNC_LOST at 4000; an edge after 120 µs is rejected and one after
480 µs ends FALLBACK. -/
theorem test_direct_example :
    (direct .edge 3999).fallbackCheckDue = false
      ∧ (after .fallbackCheck (direct .edge 4000)).tb.fallback = .fallback
      ∧ (after .fallbackCheck (direct .edge 4000)).cond.sets[0] = [.syncLost]
      ∧ (after .syncEdge (direct .fallback 120)).tb.rejectCount = 1#16
      ∧ (after .syncEdge (direct .fallback 120)).tb.fallback = .fallback
      ∧ (after .syncEdge (direct .fallback 480)).tb.fallback = .edge
      ∧ (after .syncEdge (direct .fallback 480)).tb.refTime = some 50480#48 := by decide +kernel

/-- A publication numbered n, 500 µs after the one before, with 10 °/s on gyro x (section 1.9). -/
def pub (n : Nat) : Publication :=
  { number := BitVec.ofNat 48 n, time := BitVec.ofNat 48 (500 * n), interval := 500#48, strobe := 0#8, source := some .A,
    epoch := 0#16, tag := none, gyro := ⟨655360#32, 0#32, 0#32⟩, accel := ⟨0#32, 0#32, 0#32⟩, temp := some 0#16,
    flags := ⟨false, false, false, false, false, false, false⟩ }

/-- A context of port 1 with label 0101h and the auto period given, at a position. -/
def ctx (state : CtxState) (period position : Nat) : Context :=
  Context.opening state 1 0x0101#16 (BitVec.ofNat 16 period) 2#8 (BitVec.ofNat 48 position)

/-- The record that the integration of four publications from n leaves at the head of the queue (section 1.9). -/
def fourFrom (n : Nat) : Option DeltaRecord :=
  match ((ctx .opened 4 n).integrate (pub n)).integrate (pub (n + 1)) |>.integrate (pub (n + 2)) |>.take 2 (pub (n + 3)) with
  | .keeps c => c.queue.head?
  | .closes _ _ _ _ => none

/-- Section 1.9: the AUTO record of 100 to 103 holds count 4, delta angle x 1,310,720,000, a total interval of 2000 µs and
sequence 0. -/
theorem test_auto_take_example :
    (fourFrom 100).map (fun r => (r.count, r.angle.x, r.total, r.sequence, r.first, r.last)) =
        some (4#32, 1310720000#64, 2000#48, 0#16, some 100#48, some 103#48)
      ∧ ((fourFrom 100).map fun r => (r.endTime - r.startTime, r.flags.partialStart)) = some (2000#48, false) := by
  decide +kernel

/-- The last slot of a small ring (section 2.6, with a ring of two records): a read of port 2 delivers from its cursor. -/
def ringState : State :=
  { live with
    hist :=
      { records := [pub 1024, pub 1025], next := 1026#48,
        readers := #v[⟨1026#48, 0#16, 0#32, 0#16, false⟩, ⟨1025#48, 1#16, 0#32, 0#16, true⟩, ⟨1024#48, 2#16, 2#32, 2#16, true⟩,
          ⟨1026#48, 0#16, 0#32, 0#16, false⟩] } }

/-- Section 2.6 in small: the read returns OK with the records, the loss count and the cursor state after it. -/
theorem test_history_read_example :
    (after (.histRead (ask 2) 4#8) ringState).hist.readers[2] = ⟨1026#48, 2#16, 2#32, 0#16, false⟩
      ∧ ((after (.histRead (ask 2) 4#8) ringState).ports[2].queue.map fun q => q.reply.result) = [.ok] := by decide +kernel

/-- Section 10.7, T1: HIST_READ of an empty history on an empty queue leaves one reply, and ATTN goes low. -/
theorem test_reply_lowers_attention :
    (after (.histRead (ask 2) 1#8) live).attnLow 2 = true
      ∧ ((after (.histRead (ask 2) 1#8) live).ports[2].queue.map fun q => (q.reply.echo, q.reply.result, q.sent)) =
          [(0x10#8, .empty, 0#8)] := by decide +kernel

/-- Section 7.6: a grant of 2000 ms at 900,000,000 expires at 902,000,000. -/
theorem test_lease_expiry_example :
    (after (.leaseAcquire (ask 2) 1#8 2000#16)
        { live with tb := { live.tb with counter := 900000000#48 } }).cfg.lease.map Lease.expiry =
      some 902000000#48 := by decide +kernel

/-- Section 8.6: with no current slot and equal counts the target is slot 0, generation 1, and its count rises. -/
theorem test_commit_of_a_new_hub :
    ((after (.storeCommit (ask 0)) held).store.commit.map Commit.report) = some ⟨0, 1#32, 0#16⟩
      ∧ (after (.storeCommit (ask 0)) held).medium.writes[0] = 1#32
      ∧ (after (.storeCommit (ask 0)) held).store.slotValidity[0] = .invalid
      ∧ (after (.storeCommit (ask 0)) held).store.state = .erasing := by decide +kernel

/-- A SAMPLE that answers the current strobe of `live`. -/
def frame (status : Nat) : SampleFrame :=
  ⟨16#8, BitVec.ofNat 8 status, ⟨1#24, 2#24, 3#24⟩, ⟨4#24, 5#24, 6#24⟩, 7#16⟩

/-- `live` with window 16 OPEN and awaiting link A, which is in a state of the test's choice. -/
def windowed (l : Link) : State :=
  { live with
    links := ⟨l, Link.reset⟩,
    sel :=
      { Selector.reset with
        window := .opened, current := some ⟨16#8, 999500#48, false, none⟩, expected := ⟨true, false⟩ } }

/-- A link in a state, with a command in its slot or none. -/
def link (state : LinkState) (slot : Option Command) : Link := { Link.reset with state := state, slot := slot }

def identifying : Command := ⟨.identify, .internal, false, 999500#48⟩
def testing : Command := ⟨.selfTest, .host 2 5#8, false, 900000#48⟩

/-- Section 5.7: the first frame moves ABSENT to SYNCING with good count 1 and an internal IDENTIFY; the sixteenth good
frame with the identity confirmed moves SYNCING to UP. -/
theorem test_bring_up_example :
    (after (.sample .A (frame 0)) (windowed (link .absent none))).links.a.state = .syncing
      ∧ ((after (.sample .A (frame 0)) (windowed (link .absent none))).links.a.slot.map Command.kind) = some .identify
      ∧ (after (.sample .A (frame 0)) (windowed { link .syncing none with goodCount := 15, confirmed := true })).links.a.state
          = .up
      ∧ (after (.crcError .A []) (windowed { link .syncing none with goodCount := 5, confirmed := true })).links.a.goodCount
          = 0 := by decide +kernel

/-- R48, R52: the frame of the only usable head closes the window and is published with its own values. -/
theorem test_publication_of_a_frame :
    let t := after (.sample .A (frame 0)) (windowed (link .up none))
    (t.arrivals.appends.map fun p => (p.number, p.source, p.gyro.x)) = [(0#48, some .A, 64#32)]
      ∧ (t.arrivals.appends.map fun p => (p.accel.x, p.temp, p.flags.sourceChange)) = [(400#32, some 7#16, true)] := by
  decide +kernel

/-- R144: IDENTIFY is answered in STARTING, TIME_READ is not. -/
theorem test_starting_answers :
    let s := { live with store := { live.store with device := .starting } }
    ((after (.timeRead (ask 1)) s).ports[1].queue.map fun q => q.reply.result) = [.notReady]
      ∧ ((after (.identify (ask 1)) s).ports[1].queue.map fun q => q.reply.result) = [.ok] := by decide +kernel

/-- The MISMATCH counters of link A in the health snapshots that wait on port 1. -/
def mismatchesSent (s : State) : List (BitVec 32) :=
  s.ports[(1 : Port)].queue.map fun q =>
    match q.reply.payload with
    | .health h => h.links.a.mismatches
    | _ => 0xFFFFFFFF#32

/-- R101, R167: a frame taken in STARTING is counted, and the snapshot reports 0 until the load ends. -/
theorem test_starting_snapshot :
    let s := after (.sample .A (frame 0)) { live with store := Store.reset }
    s.links.a.mismatches = 1#32 ∧ mismatchesSent (after (.healthRead (ask 1)) s) = [0#32]
      ∧ mismatchesSent (after (.healthRead (ask 1)) { s with store := live.store }) = [1#32] := by decide +kernel

/-! ## Part 2: the checks of WellFormed -/

/-- A MALFORMED_REQUEST whose bytes are a NOP, or a good request, is no such command; a broken check is. -/
theorem test_wf_malformed :
    (Instr.malformedRequest 0 [0#8, 1#8]).wf = false ∧ (Instr.malformedRequest 0 (sealed [0x01#8, 0#8, 0#8])).wf = false
      ∧ (Instr.malformedRequest 0 [0x01#8, 0#8, 0#8, 0#8, 0#8]).wf = true := by decide +kernel

/-- A CRC_ERROR whose bytes are a good frame is no such command. -/
theorem test_wf_crc_error :
    (Instr.crcError .A (sealed [0x02#8, 2#8, 0#8, 0#8])).wf = false ∧ (Instr.crcError .A []).wf = true := by decide +kernel

/-- A spoiled slot holds an image of 208 bytes or none. -/
theorem test_wf_spoiled_image :
    (Instr.writingEnd (.spoiled none (some [1#8]))).wf = false
      ∧ (Instr.writingEnd (.spoiled (some 1#32) (some (List.replicate 208 0#8)))).wf = true
      ∧ (Instr.writingEnd .sound).wf = true := by decide +kernel

/-! ## Part 3: states that meet the hypotheses -/

/-- Every request kind is Ready on every port of `live`. -/
theorem witness_ready : ∀ k ∈ RequestKind.all, ∀ p : Port, Ready (ask p) k live = true := by decide +kernel

/-- HEALTH_READ is Ready in RUNNING and in STARTING. -/
theorem witness_health :
    live.store.device = .running ∧ Ready (ask 1) .healthRead { live with store := Store.reset } = true
      ∧ Store.reset.device = .starting := by decide +kernel

/-- `live` at a counter value, the last strobe at 999,500. -/
def liveAt (counter : Nat) : State := { live with tb := { live.tb with counter := BitVec.ofNat 48 counter } }

theorem witness_idle_step :
    live.pending = [] ∧ live.dueEvent = some .freeStrobe ∧ (liveAt 999999).dueEvent = none
      ∧ (liveAt 999999).power = .running ∧ State.reset.pending = [] ∧ State.reset.power ≠ .running := by decide +kernel

theorem witness_part_reset :
    live.power ≠ .unpowered ∧ ({ live with power := .unpowered } : State).power = .unpowered
      ∧ State.reset.power = .heldInReset ∧ live.power ≠ .heldInReset ∧ 10 ≤ 10 ∧ 9 < 10 := by decide +kernel

/-- A VALID slot with an image. -/
def slotOf (g : Nat) (i : Image) : SlotContents :=
  ⟨some (BitVec.ofNat 32 g), some i.bytes, some (slotCheck (BitVec.ofNat 32 g) i.bytes)⟩

def erased : SlotContents := ⟨none, none, none⟩

/-- A medium with the two slots and their write counts. -/
def mediumOf (c0 c1 : SlotContents) (w0 w1 : Nat) : Medium :=
  { Medium.fresh with slots := #v[c0, c1], writes := #v[BitVec.ofNat 32 w0, BitVec.ofNat 32 w1] }

/-- `live` still STARTING, on a medium. -/
def starting (m : Medium) : State :=
  { live with store := Store.reset, medium := m, tb := { TimeBase.reset with counter := 20000#48 } }

def directImage : Image := { Image.default with timing := ⟨.r500, .direct, 0#16⟩ }

theorem witness_start_up_load :
    ((mediumOf (slotOf 6 directImage) (slotOf 7 Image.default) 3 4).image 0).isSome = true
      ∧ ((mediumOf (slotOf 6 directImage) (slotOf 7 Image.default) 3 4).image 1).isSome = true
      ∧ (mediumOf (slotOf 6 directImage) (slotOf 7 Image.default) 3 4).validGeneration 0 = 6
      ∧ (mediumOf (slotOf 6 directImage) (slotOf 6 Image.default) 3 4).choose.current = some 0
      ∧ (mediumOf (slotOf 6 directImage) erased 3 4).image 1 = none
      ∧ (mediumOf (slotOf 6 directImage) erased 3 4).choose.image.timing.mode = .direct
      ∧ (mediumOf erased (slotOf 6 directImage) 0 4).image 0 = none
      ∧ Medium.fresh.writes[0] = 0#32 ∧ Medium.fresh.writes[1] = 0#32 ∧ Medium.fresh.choose.image.timing.mode ≠ .direct
      ∧ (mediumOf erased erased 0 1).image 0 = none ∧ (mediumOf erased erased 0 1).image 1 = none
      ∧ (starting Medium.fresh).power = .running ∧ (starting Medium.fresh).store.device = .starting := by decide +kernel

/-- A queued reply with its sent count. -/
def waiting (sent : Nat) : QueuedReply := ⟨Reply.immediate .histPeek 1#8 .empty .none, BitVec.ofNat 8 sent⟩

/-- `live` with every port alike. -/
def allPorts (q : PortState) : State := { live with ports := Vector.replicate 4 q }

theorem witness_chip_select :
    (allPorts ⟨false, none, [], AttnSet.default, [], none⟩).ports[1].csLow = false
      ∧ (allPorts ⟨false, none, [], AttnSet.default, [], none⟩).ports[1].queue = []
      ∧ (allPorts ⟨false, none, [waiting 255], AttnSet.default, [], none⟩).ports[1].queue = waiting 255 :: []
      ∧ live.power = .running ∧ live.ports[1].csLow = true ∧ live.ports[1].lastEnd = none
      ∧ State.reset.power ≠ .running ∧ State.reset.ports[1].csLow = false := by decide +kernel

/-- A transaction that sends the head of the queue, three bytes long. -/
def sending (queued : Bool) : State :=
  allPorts ⟨true, some ⟨queued, [1#8, 2#8, 3#8], true⟩, [waiting 1], AttnSet.default, [], none⟩

/-- R169: a transaction cut short sends the first bytes of its reply, and one that goes on sends 00h after the last. -/
theorem test_data_out :
    (after (.nop 0 2) (sending true)).ports[0].sent = [1#8, 2#8]
      ∧ (after (.nop 0 5) (sending true)).ports[0].sent = [1#8, 2#8, 3#8, 0#8, 0#8] := by decide +kernel

/-- `live` with every port idle, a transaction of each having ended so many microseconds ago. -/
def ended (since : Nat) : State :=
  allPorts ⟨false, none, [], AttnSet.default, [], some (1000000#48 - BitVec.ofNat 48 since)⟩

/-- The EARLY indication of the transaction in progress on port 1. -/
def earlyOf (s : State) : Option Bool := s.ports[(1 : Port)].txn.map Transaction.early

/-- R172: a transaction is EARLY less than 2 µs after the end of the one before, of the same port alone, and the first one
never is. -/
theorem test_early :
    earlyOf (after (.chipSelectFall 1 false) (ended 1)) = some true
      ∧ earlyOf (after (.chipSelectFall 1 false) (ended 2)) = some false
      ∧ earlyOf (after (.chipSelectFall 1 true) (ended 2)) = some true
      ∧ earlyOf (after (.chipSelectFall 1 true) (ended 3)) = some false
      ∧ earlyOf (after (.chipSelectFall 1 true) (allPorts PortState.reset)) = some false
      ∧ earlyOf (after (.chipSelectFall 1 false) (after (.nop 1 0) (after (.chipSelectFall 1 false) (ended 3)))) = some true
      ∧ earlyOf (after (.chipSelectFall 1 false) (after (.nop 0 0) (after (.chipSelectFall 0 false) (ended 3)))) =
          some false := by
  decide +kernel

theorem witness_nop :
    (sending true).ports[0].txn = some ⟨true, [1#8, 2#8, 3#8], true⟩ ∧ [1#8, 2#8, 3#8].length ≤ 3
      ∧ 2 < [1#8, 2#8, 3#8].length ∧ (sending false).ports[0].txn = some ⟨false, [1#8, 2#8, 3#8], true⟩
      ∧ (allPorts PortState.reset).ports[0].txn = none ∧ [0#8, 1#8].head? = some 0#8 := by decide +kernel

/-- Each case of R172 that refuses the bytes, at the ends of its range. -/
theorem witness_malformed :
    decodeRequest 0 [1#8, 2#8] = .frameError .shortHeader ∧ decodeRequest 0 [1#8, 2#8, 121#8] = .frameError .lengthRange
      ∧ decodeRequest 0 (1#8 :: 2#8 :: 120#8 :: List.replicate 121 0#8) = .frameError .shortPayload
      ∧ decodeRequest 0 (1#8 :: 2#8 :: 120#8 :: List.replicate 122 0#8) = .frameError .check
      ∧ decodeRequest 0 (sealed [0x7F#8, 0#8, 0#8]) = .unknownKind
      ∧ decodeRequest 0 (sealed [0x01#8, 0#8, 1#8, 9#8]) = .badLength
      ∧ live.ports[0].txn = some ⟨false, [], false⟩ ∧ (sending true).ports[0].txn = some ⟨true, [1#8, 2#8, 3#8], true⟩
      ∧ [1#8, 2#8] ≠ [] ∧ byteAt [1#8, 2#8] 0 ≠ 0#8 := by decide +kernel

theorem witness_messages :
    requestOf (.histSeek (ask 1) 3#8 5#48) = some (ask 1, .histSeek, 3#8 :: field 6 5#48)
      ∧ (requestMessage (.histSeek (ask 1) 3#8 5#48)).isSome = true := by decide +kernel

/-- `live` with a queue of so many replies, in a transaction that is EARLY or not. -/
def queued (n : Nat) (early : Bool) : State :=
  allPorts ⟨true, some ⟨false, [], early⟩, List.replicate n (waiting 0), AttnSet.default, [], none⟩

theorem witness_early_and_starting :
    (queued 3 true).ports[1].txn = some ⟨false, [], true⟩ ∧ (starting Medium.fresh).store.device = .starting
      ∧ (starting Medium.fresh).inTransaction 1 = true
      ∧ ((starting Medium.fresh).served (ask 1) .timeRead).ports[1].queue.length < 4
      ∧ ((starting Medium.fresh).served (ask 1) .condRead).ports[1].queue.length < 4 := by decide +kernel

theorem witness_full_queue :
    (queued 4 false).inTransaction 1 = true ∧ ((queued 4 false).served (ask 1) .histRead).ports[1].queue.length = 4
      ∧ (.histRead : RequestKind) ≠ .portReset
      ∧ (after (.leaseAcquire (ask 1) 1#8 2000#16) (queued 4 false)).cfg.lease.map Lease.holder = some 1
      ∧ Cond.replyLost ∈ (after (.leaseAcquire (ask 1) 1#8 2000#16) (queued 4 false)).cond.sets[(1 : Port)] := by
  decide +kernel

/-- A completion in flight to port 1, which has so many replies waiting. -/
def completing (n : Nat) : State :=
  { queued n false with
    arrivals := { Arrivals.none with completions := [⟨1, Reply.completion .storeCommit 1#8 .done .none⟩] } }

theorem witness_completion :
    (completing 3).arrivals.completions[0]? = some ⟨1, Reply.completion .storeCommit 1#8 .done .none⟩
      ∧ (completing 3).power = .running ∧ (completing 3).ports[1].queue.length < 4
      ∧ (completing 4).ports[1].queue.length = 4 := by decide +kernel

theorem witness_set_attention :
    15 < (16#8).toNat ∧ (15#8).toNat ≤ 15 ∧ (15#8).getLsbD 0 = true ∧ live.power = .running := by decide +kernel

/-- `held` without waiters. -/
def alone : State := { held with cfg := { held.cfg with waiters := [] } }

theorem witness_port_reset :
    held.inTransaction 0 = true ∧ held.store.device = .running ∧ held.cfg.holds 0 = true
      ∧ held.cfg.waiters = ⟨1, 9#8, 100#16⟩ :: [⟨3, 4#8, 60000#16⟩] ∧ (1 : Port) ≠ 0 ∧ alone.cfg.holds 0 = true
      ∧ alone.cfg.waiters = [] ∧ held.cfg.holds 1 = false := by decide +kernel

theorem witness_condition_reads :
    Ready (ask 1) .condRead live = true ∧ live.store.device = .running := by decide +kernel

theorem witness_level_re_evaluation :
    ({ live with arrivals := { Arrivals.none with atCond := [⟨true, false⟩] } } : State).arrivals.atCond =
        ⟨true, false⟩ :: [] := by decide +kernel

/-- `live` in SCALED, unlocked, one period after the last strobe. -/
def scaled (lock : LockState) (run : AcquisitionRun) (counter : Nat) : State :=
  { live with
    tb :=
      { live.tb with
        timing := some ⟨.r2000, .scaled, 1#16⟩, lock := lock, run := run, counter := BitVec.ofNat 48 counter } }

theorem witness_internal_strobes :
    live.tb.timing = some ⟨.r2000, .free, 1#16⟩ ∧ live.tb.refTime = some 999500#48 ∧ Rate.r2000.period ≤ live.since 999500#48
      ∧ (direct .fallback 1000).tb.fallback = .fallback ∧ Rate.r1000.period ≤ (direct .fallback 1000).since 50000#48
      ∧ (scaled .unlocked AcquisitionRun.empty 1000000).tb.lock = .unlocked
      ∧ Rate.r2000.period ≤ (scaled .acquiring ⟨some 999600#48, none, 0⟩ 1000000).since 999500#48
      ∧ (direct .edge 4000).tb.fallback = .edge ∧ 4 * Rate.r1000.period ≤ (direct .edge 4000).since 50000#48
      ∧ State.reset.tb.strobing = false ∧ (liveAt 999999).since 999500#48 < Rate.r2000.period
      ∧ (direct .edge 3999).since 50000#48 < 4 * Rate.r1000.period
      ∧ (locked .locked 1000 2 500 ⟨10000#48, 1#16, 0#16, 1⟩).tb.timing = some ⟨.r2000, .scaled, 2#16⟩
      ∧ (locked .holdover 1000 2 500 ⟨10000#48, 1#16, 0#16, 1⟩).tb.refTime = some 9000#48 := by
  decide +kernel

theorem witness_sync_edge :
    (direct .edge 200).tb.timing = some ⟨.r1000, .direct, 0#16⟩ ∧ (direct .edge 200).tb.strobing = true
      ∧ 200 ≤ (direct .edge 200).since 50000#48 ∧ (direct .edge 199).since 50000#48 < 200
      ∧ (direct .edge 199).tb.strobeIssued = true
      ∧ ({ direct .edge 0 with tb := { (direct .edge 0).tb with strobeIssued := false } } : State).tb.strobeIssued = false := by
  decide +kernel

/-- An acquisition run, with a last pulse so long ago. -/
def acquiring (since : Nat) (i : Option Micros) (count : Nat) : State :=
  scaled .acquiring ⟨some 990000#48, i, count⟩ (990000 + since)

theorem witness_acquisition :
    (scaled .unlocked AcquisitionRun.empty 1000000).tb.timing = some ⟨.r2000, .scaled, 1#16⟩
      ∧ (acquiring 249 none 0).since 990000#48 < 250 ∧ 2000 < (acquiring 2001 none 0).since 990000#48
      ∧ 250 ≤ (acquiring 250 none 0).since 990000#48 ∧ (acquiring 2000 none 0).since 990000#48 ≤ 2000
      ∧ 100 * (((acquiring 1010 (some 1000#48) 1).since 990000#48 : Int) - 1000).natAbs ≤ 1000
      ∧ 1000 < 100 * (((acquiring 1011 (some 1000#48) 2).since 990000#48 : Int) - 1000).natAbs
      ∧ (acquiring 1010 (some 1000#48) 2).tb.run.count = 2 ∧ (acquiring 1010 (some 1000#48) 1).tb.run.inRange = some 1000#48
      ∧ (acquiring 1010 (some 1000#48) 1).tb.run.lastPulse = some 990000#48 := by decide +kernel

def interval : Schedule := ⟨10000#48, 1#16, 0#16, 1⟩

theorem witness_lock_pulses :
    (locked .locked 1000 1 1010 interval).tb.lockRef = some ⟨10000#48, 1000#48, 0#16⟩
      ∧ 100 * (((locked .locked 1000 1 1010 interval).since 10000#48 : Int) - 1000).natAbs ≤ 1000
      ∧ 1000 < 100 * (((locked .locked 1000 1 1011 interval).since 10000#48 : Int) - 1000).natAbs
      ∧ 100 * (((locked .locked 2000 1 2001 interval).since 10000#48 : Int) - 2000).natAbs ≤ 2000
      ∧ 2000 < (locked .locked 2000 1 2001 interval).since 10000#48
      ∧ (locked .locked 250 1 249 interval).since 10000#48 < 250
      ∧ 100 * (((locked .holdover 1000 1 2010 interval).since 10000#48 : Int) - 2000).natAbs ≤ 1000
      ∧ 100 * (((locked .holdover 1000 1 9010 interval).since 10000#48 : Int) - 9000).natAbs ≤ 1000
      ∧ ∀ m ∈ [2, 3, 4, 5, 6, 7, 8, 9],
          1000 < 100 * (((locked .holdover 1000 1 2011 interval).since 10000#48 : Int) - (m * 1000 : Nat)).natAbs := by
  decide +kernel

/-- A lock whose last strobe was so long ago. -/
def spacedBy (n : Nat) : State :=
  { locked .locked 1000 2 n interval with tb := { (locked .locked 1000 2 n interval).tb with refTime := some 10000#48 } }

theorem witness_schedule :
    200 ≤ (spacedBy 200).since 10000#48 ∧ (spacedBy 199).since 10000#48 < 200 ∧ (spacedBy 200).tb.strobeIssued = true
      ∧ (1#16).toNat < (2#16).toNat ∧ 1 * 1000 / 2 ≤ (spacedBy 500).since 10000#48
      ∧ 1 * 1000 + 1000 / 100 + 1 ≤ (locked .locked 1000 2 1011 interval).since 10000#48
      ∧ 8 * 1000 + 1000 / 100 + 1 ≤ (locked .holdover 1000 2 8011 ⟨10000#48, 2#16, 7#16, 8⟩).since 10000#48
      ∧ 105 * 1000 ≤ 100 * (locked .locked 1000 2 1050 interval).since 10000#48
      ∧ 9 * 1000 + 1000 / 100 + 1 ≤ (locked .holdover 1000 2 9011 ⟨10000#48, 2#16, 8#16, 9⟩).since 10000#48 := by
  decide +kernel

/-- The events of a schedule one microsecond early, in the wrong state, and at the end of an interval. -/
theorem witness_schedule_kept :
    (locked .acquiring 1000 2 499 interval).tb.lock ≠ .locked ∧ (locked .acquiring 1000 2 499 interval).tb.lock ≠ .holdover
      ∧ (locked .acquiring 1000 2 499 interval).tb.schedule = some interval
      ∧ (spacedBy 499).since 10000#48 < 1 * 1000 / 2 ∧ (2#16).toNat ≤ (2#16).toNat
      ∧ (locked .locked 1000 2 1010 interval).since 10000#48 < 1 * 1000 + 1000 / 100 + 1
      ∧ (locked .locked 1000 2 1011 ⟨11011#48, 1#16, 1#16, 2⟩).tb.lock = .locked ∧ (2 : Nat) ≠ 1 ∧ 8 < 9
      ∧ 100 * (locked .locked 1000 2 1049 interval).since 10000#48 < 105 * 1000
      ∧ (locked .holdover 1000 2 9010 ⟨10000#48, 2#16, 8#16, 9⟩).since 10000#48 < 9 * 1000 + 1000 / 100 + 1 := by
  decide +kernel

/-- New timing items on their way to TB. -/
def newTiming (s : State) (g : Timing) : State := { s with arrivals := { Arrivals.none with timings := [g] } }

theorem witness_timing_change :
    (newTiming live ⟨.r2000, .free, 1#16⟩).arrivals.timings = ⟨.r2000, .free, 1#16⟩ :: []
      ∧ live.tb.timing = some ⟨.r2000, .free, 1#16⟩ ∧ live.tb.timing ≠ some ⟨.r500, .free, 1#16⟩
      ∧ live.tb.timing.map Timing.mode ≠ some .direct
      ∧ (direct .fallback 0).tb.timing.map Timing.mode = some .direct
      ∧ (direct .fallback 0).tb.timing ≠ some ⟨.r500, .direct, 0#16⟩ ∧ live.tb.timing ≠ some ⟨.r500, .scaled, 1#16⟩
      ∧ State.reset.tb.refTime = none ∧ (liveAt 1001500).since 999500#48 = Rate.r500.period
      ∧ (liveAt 1001501).since 999500#48 = Rate.r500.period + 1 ∧ (direct .edge 2000).since 50000#48 = 4 * Rate.r2000.period
      ∧ (direct .edge 2001).since 50000#48 = 4 * Rate.r2000.period + 1 := by
  decide +kernel

/-- R116: a rise of the rate brings the next strobe forward, and one whose time has already passed is issued at once; in
DIRECT the overdue strobe is that of the fallback check. -/
theorem test_overdue_strobe :
    (after .timingChange (newTiming (scaled .unlocked AcquisitionRun.empty 999801) ⟨.r4000, .scaled, 1#16⟩)).tb.refTime =
        some 999801#48
      ∧ (after .timingChange (newTiming (scaled .unlocked AcquisitionRun.empty 999701) ⟨.r4000, .scaled, 1#16⟩)).tb.refTime =
        some 999500#48
      ∧ (after .timingChange (newTiming (direct .edge 2001) ⟨.r2000, .direct, 0#16⟩)).tb.fallback = .fallback
      ∧ (after .timingChange (newTiming (direct .edge 2001) ⟨.r2000, .direct, 0#16⟩)).cond.sets[(0 : Port)] = [.syncLost]
      ∧ (after .timingChange (newTiming (direct .edge 1999) ⟨.r2000, .direct, 0#16⟩)).tb.fallback = .edge := by
  decide +kernel

theorem witness_strobe_spacing :
    live.store.device = .running ∧ live.tb.strobeIssued = true ∧ live.tb.refTime = some 999500#48
      ∧ exec .freeStrobe live = .next (after .freeStrobe live) := ⟨rfl, rfl, rfl, rfl⟩

/-- `windowed` with a strobe on its way to SEL. -/
def struck (l : Link) (window : WindowState) : State :=
  { windowed l with
    sel := { (windowed l).sel with window := window },
    arrivals := { Arrivals.none with strobesToSel := [⟨17#8, 1000000#48, false, none⟩] } }

theorem witness_strobe_at_sel :
    (struck (link .up none) .closed).links.a.state.expected = true ∧ (struck (link .up none) .closed).sel.window ≠ .opened
      ∧ (struck (link .up none) .opened).sel.window = .opened
      ∧ (struck (link .up none) .opened).sel.current = some ⟨16#8, 999500#48, false, none⟩
      ∧ (struck (link .up none) .opened).arrivals.strobesToSel = ⟨17#8, 1000000#48, false, none⟩ :: []
      ∧ (struck Link.reset .none).links.a.state.expected = false ∧ (struck Link.reset .none).links.b.state.expected = false
      ∧ (struck (link .foreign none) .opened).sel.expected.a = true ∧ (struck (link .foreign none) .opened).sel.frames.a = none
      ∧ (struck Link.reset .none).sel.previousTime = none ∧ (struck Link.reset .none).sel.previousEpoch = none
      ∧ (struck Link.reset .none).sel.source = none := by decide +kernel

/-- R43, R64: with no link expected, the window of a strobe closes as it opens, with its publication and no miss. -/
theorem test_empty_window_closes_at_once :
    (after .strobeAtSel (struck Link.reset .none)).sel.window = .closed
      ∧ ((after .strobeAtSel (struck Link.reset .none)).arrivals.appends.map fun p => (p.strobe, p.source)) = [(17#8, none)]
      ∧ (after .strobeAtSel (struck Link.reset .none)).arrivals.misses = ⟨0, 0⟩ := by decide +kernel

/-- A close with a usable head A, and one in a hold after so many held windows. -/
def closingA : State :=
  { windowed (link .up none) with
    sel := { (windowed (link .up none)).sel with frames := ⟨some (frame 0), none⟩ } }

def holding (n : Nat) (last : Option (Triple (BitVec 32) × Triple (BitVec 32))) : State :=
  { windowed (link .up none) with
    sel := { (windowed (link .up none)).sel with heldCount := BitVec.ofNat 16 n, lastValues := last } }

theorem witness_publication :
    (closingA.closing ⟨16#8, 999500#48, false, none⟩).1.source = some .A
      ∧ ((holding 7 (some (⟨1#32, 2#32, 3#32⟩, ⟨4#32, 5#32, 6#32⟩))).closing ⟨16#8, 999500#48, false, none⟩).1.source = none
      ∧ (holding 7 (some (⟨1#32, 2#32, 3#32⟩, ⟨4#32, 5#32, 6#32⟩))).sel.heldCount.toNat < 8
      ∧ 8 ≤ (holding 8 none).sel.heldCount.toNat ∧ (holding 0 none).sel.lastValues = none := by decide +kernel

theorem witness_source_tables :
    SourceMode.preferA.preferred = some .A ∧ SourceMode.aOnly.preferred = none ∧ closingA.usable .A = true
      ∧ closingA.usable .B = false ∧ (some Head.B) = some Head.A.other ∧ (0 : Nat) ≤ 15 ∧ 15 ≤ 15
      ∧ ({ closingA with
            links := ⟨link .up none, link .up none⟩,
            sel := { closingA.sel with frames := ⟨some (frame 0), some (frame 0)⟩ } } : State).usable .B = true := by
  decide +kernel

/-- R59: the gyro threshold meets the gyro values and the accel threshold the accel values, each only when exceeded. -/
theorem test_thresholds :
    let image := { Image.default with gyroThreshold := 5#32, accelThreshold := 100#32 }
    let values (g a : BitVec 32) : Calibrated := ⟨⟨g, 0#32, 0#32⟩, ⟨0#32, a, 0#32⟩, false⟩
    disagrees image (values 5#32 100#32) (values 0#32 0#32) = false
      ∧ disagrees image (values 6#32 0#32) (values 0#32 0#32) = true
      ∧ disagrees image (values 0#32 101#32) (values 0#32 0#32) = true := by decide +kernel

theorem witness_accepted_sample :
    (windowed Link.reset).sel.current = some ⟨16#8, 999500#48, false, none⟩ ∧ (frame 0).echo = 16#8
      ∧ (windowed Link.reset).sel.frames.get .A = none ∧ statusRestarted (frame 0x80).status = true
      ∧ statusRestarted (frame 0).status = false ∧ newFaults none (frame 1).status ≠ 0#6 := by decide +kernel

/-- `windowed` awaiting both links, the other one's frame taken or not. -/
def awaiting (l : Link) (other : Option SampleFrame) : State :=
  { windowed l with
    links := ⟨l, link .up none⟩,
    sel := { (windowed l).sel with expected := ⟨true, true⟩, frames := ⟨none, other⟩ } }

/-- The last frame that an OPEN window awaits, one that leaves it waiting, and one for a CLOSED window. -/
theorem witness_last_frame :
    (awaiting (link .up none) (some (frame 0))).sel.window = .opened
      ∧ (∀ y : Head, (awaiting (link .up none) (some (frame 0))).sel.expected.get y = true →
          ((awaiting (link .up none) (some (frame 0))).sel.frames.set .A (some (frame 0))).get y ≠ none)
      ∧ (awaiting (link .up none) none).sel.frames.get .B = none ∧ (awaiting (link .up none) none).sel.expected.get .B = true
      ∧ (struck (link .absent none) .closed).sel.window ≠ .opened
      ∧ (awaiting (link .up none) none).sel.frames.get .A = none := by
  refine ⟨by decide +kernel, fun y => by cases y <;> decide +kernel, ?_⟩
  decide +kernel

/-- R45, R95, R99: a restart that is the last awaited frame closes the window, and the host's command ends LINK_LOST. -/
theorem test_restart_closes_and_completes :
    let t := after (.sample .A (frame 0x80)) (awaiting (link .up (some testing)) (some (frame 0)))
    t.sel.window = .closed ∧ (t.arrivals.appends.map Publication.source) = [some .B]
      ∧ (t.arrivals.completions.map fun c => (c.port, c.reply.result)) = [(2, .linkLost)]
      ∧ t.links.a.lastResult = some ⟨.selfTest, some 2, .linkLost, .none⟩ := by decide +kernel

theorem witness_errors :
    decodeUpstream .A [] = none ∧ (struck Link.reset .closed).sel.current.map Strobe.number ≠ some 15#8
      ∧ ({ windowed Link.reset with sel := { (windowed Link.reset).sel with previous := some 15#8 } } : State).sel.previous =
          some 15#8
      ∧ (link .up none).slot.map Command.kind ≠ some .identify
      ∧ ({ Arrivals.none with misses := ⟨1, 0⟩ } : Arrivals).misses.get .A = 0 + 1
      ∧ (link .up (some testing)).resultAfter .linkLost .none = some ⟨.selfTest, some 2, .linkLost, .none⟩
      ∧ (link .up (some testing)).completionOf .A .linkLost .none ≠ [] ∧ 0 + LinkError.weight .missed < 64
      ∧ 62 + 1 < 64 ∧ 64 ≤ 63 + 1 ∧ 59 + LinkError.weight .late < 64 ∧ 64 ≤ 60 + LinkError.weight .missed
      ∧ 64 ≤ 56 + LinkError.weight .crcError := by decide +kernel

theorem witness_command_ends :
    (windowed (link .up (some identifying))).links.a.slot = some identifying
      ∧ (windowed (link .up (some testing))).links.a.slot = some testing
      ∧ identifying.kind = responseKind (.identify 1#32 2#16) ∧ testing.kind = responseKind (.selfTest 1#8 0x21#8)
      ∧ testing.origin = .host 2 5#8 ∧ testing.forgotten = false ∧ identifying.origin = .internal
      ∧ 100000 ≤ (windowed (link .up (some testing))).since testing.sentAt
      ∧ (windowed (link .up (some { testing with sentAt := 900001#48 }))).since 900001#48 < 100000
      ∧ (windowed (link .up none)).links.a.slot = none
      ∧ (link .syncing (some testing)).state = .syncing ∧ (link .syncing (some testing)).confirmed = false := by decide +kernel

/-- R88, R95: 100 ms after it was issued, the IDENTIFY of an unconfirmed SYNCING link ends, and a fresh one is placed. -/
theorem test_identify_timeout_places_another :
    let l := link .syncing (some { identifying with sentAt := 900000#48 })
    (after (.commandTimeout .A) (windowed l)).links.a.slot = some { identifying with sentAt := 1000000#48 }
      ∧ (after (.commandTimeout .A) (windowed l)).links.a.lastResult = some ⟨.identify, none, .timeout, .none⟩ := by
  decide +kernel

/-- A SYNCING link with an identification outstanding, and a store whose factory record names a head. -/
def syncing (good : Nat) (serial : BitVec 32) : State :=
  let s := windowed { link .syncing (some identifying) with goodCount := good }
  { s with store := { s.store with factory := ⟨some { FactoryRecord.fitted with serial := serial }, none⟩ } }

theorem witness_identification :
    (syncing 16 0#32).links.a.state = .syncing ∧ (syncing 16 0#32).links.a.goodCount = 16
      ∧ ((syncing 16 0#32).store.factoryAsRead .A).serial = 0#32 ∧ (syncing 15 5#32).links.a.goodCount ≠ 16
      ∧ (syncing 15 5#32).store.factoryValidity.get .A = .valid ∧ ((syncing 15 5#32).store.factoryAsRead .A).serial ≠ 0#32
      ∧ ((syncing 15 5#32).store.factoryAsRead .A).serial ≠ 6#32 ∧ (syncing 15 5#32).links.a.slot = some identifying := by
  decide +kernel

theorem witness_strobe_at_link :
    ({ windowed { link .faulted none with silence := 63 } with
          arrivals := { Arrivals.none with strobesToLink := ⟨[17#8], []⟩ } } : State).arrivals.strobesToLink.get .A =
        17#8 :: []
      ∧ ({ link .faulted none with silence := 62 } : Link).silence < 63 ∧ (link .up none).state ≠ .faulted := by
  decide +kernel

theorem witness_head_commands :
    headOf 2#8 = none ∧ headOf 1#8 = some .B ∧ Ready (ask 0) CommandKind.selfTest.request held = true
      ∧ held.cfg.holds 0 = true ∧ held.cfg.holds 1 = false ∧ (held.links.get .B).state = .absent
      ∧ ((windowed (link .up none)).links.get .A).slot = none
      ∧ ((windowed (link .up (some testing))).links.get .A).slot ≠ none := by decide +kernel

theorem witness_cal_read :
    Ready (ask 0) .calRead held = true ∧ headOf 2#8 = none ∧ 2 < (3#8).toNat ∧ headOf 0#8 = some .A
      ∧ held.cfg.lease.map Lease.holder = some 0 ∧ held.cfg.holds 2 = false := by decide +kernel

/-- `ringState`, its publication counter agreeing. -/
def ringed : State := { ringState with sel := { ringState.sel with counter := 1026#48 } }

theorem witness_ring : ringed.RingConsistent := by
  simp only [State.RingConsistent, History.Consecutive, Reader.Within]
  decide +kernel

theorem witness_history_requests :
    Ready (ask 2) .histRead ringed = true ∧ Ready (ask 2) .histPeek ringed = true ∧ Ready (ask 2) .histSeek ringed = true
      ∧ Ready (ask 2) .histWatermark ringed = true ∧ ringed.hist.records.getLast? = some (pub 1025) ∧ live.hist.records = []
      ∧ (1026#48 - 1024#48).toNat ≤ ringed.hist.records.length ∧ ringed.hist.records.length < (1026#48 - 1023#48).toNat
      ∧ (1024#16).toNat ≤ 1024 ∧ 1024 < (1025#16).toNat ∧ 4 < (5#8).toNat ∧ 3 < (4#8).toNat := by decide +kernel

/-- A history of so many records, with publication n on its way. -/
def filled (n : Nat) : State :=
  { live with
    hist := { records := (List.range n).map pub, next := BitVec.ofNat 48 n, readers := Vector.replicate 4 Reader.reset },
    arrivals := { Arrivals.none with appends := [pub n] } }

theorem witness_append :
    (filled 1023).hist.records.length < 1024 ∧ (filled 1024).hist.records.length = 1024
      ∧ (filled 1024).hist.readers[0].cursor = (filled 1024).hist.next - 1024#48
      ∧ ringed.hist.readers[0].cursor ≠ 0#48 ∧ (filled 1024).arrivals.appends = pub 1024 :: [] := by decide +kernel

/-- `ringed` with a context in each of the first entries. -/
def withContexts (n : Nat) (c : Context) : State :=
  { ringed with
    delta := ⟨Vector.ofFn fun k : Fin 8 => if k.val < n then some c else none, some 1025#48⟩ }

theorem witness_delta_open :
    Ready (ask 1) .deltaOpen ringed = true ∧ 1 < (2#8).toNat
      ∧ (∀ n : CtxNum, (withContexts 8 (ctx .opened 4 1026)).delta.contexts[n] ≠ none)
      ∧ (withContexts 4 (ctx .opened 4 1026)).delta.contexts[(4 : CtxNum)] = none
      ∧ (withContexts 4 (ctx .opened 4 1026)).delta.owned 1 = 4 ∧ (withContexts 3 (ctx .opened 4 1026)).delta.owned 1 = 3
      ∧ (withContexts 3 (ctx .opened 4 1026)).delta.contexts[(3 : CtxNum)] = none
      ∧ (∀ m : CtxNum, m < 3 → (withContexts 3 (ctx .opened 4 1026)).delta.contexts[m] ≠ none)
      ∧ 2 ^ 47 ≤ (1025#48 - ringed.hist.next).toNat ∧ (1026#48 - ringed.hist.next).toNat < 2 ^ 47
      ∧ (1025#48 - (ringed.hist.next - 2#48)).toNat < 2 ∧ 2 ≤ (1026#48 - (ringed.hist.next - 2#48)).toNat := by
  decide +kernel

/-- A delta record. -/
def record : DeltaRecord := (ctx .opened 4 1026).recordOf 0 .auto

/-- A context with a queue of so many records. -/
def queueing (state : CtxState) (n : Nat) : Context := { ctx state 4 1026 with queue := List.replicate n record }

theorem witness_delta_requests :
    Ready (ask 1) .deltaTake (withContexts 1 (queueing .opened 4)) = true ∧ 7 < (8#8).toNat
      ∧ ringed.delta.contexts[(7 : CtxNum)] = none
      ∧ (withContexts 1 (queueing .opened 4)).delta.contexts[(0 : CtxNum)] = some (queueing .opened 4)
      ∧ (queueing .opened 4).owner ≠ 2 ∧ (queueing .opened 4).owner = 1 ∧ (queueing .backfilling 0).state = .backfilling
      ∧ (queueing .opened 0).queue = [] ∧ (queueing .opened 4).queue = record :: List.replicate 3 record := by decide +kernel

theorem witness_auto_takes :
    (queueing .opened 3).queue.length < 4 ∧ 4 ≤ (queueing .opened 4).queue.length ∧ (4#16).toNat ∣ 1027 + 1
      ∧ ¬ (4#16).toNat ∣ 1026 + 1 ∧ (ctx .opened 0 5).period = 0#16
      ∧ 2 ^ 32 - 1 ≤ (0xFFFFFFFE#32).toNat + (1#32).toNat ∧ (0xFFFFFFFE#32).toNat + (0#32).toNat < 2 ^ 32 - 1 := by
  decide +kernel

/-- A context one publication short of the count limit. -/
def nearLimit (n : Nat) : Context :=
  { queueing .opened n with
    period := 0#16, acc := { Accumulation.empty with count := 0xFFFFFFFE#32, first := some 0#48 } }

/-- `withContexts` with publication 1026 and the drop of record 1026 on their way to DELTA. -/
def arriving (c : Context) : State :=
  { withContexts 1 c with arrivals := { Arrivals.none with atDelta := [pub 1026], drops := [1026#48] } }

theorem witness_delta_arrivals :
    (arriving (nearLimit 4)).arrivals.atDelta = pub 1026 :: [] ∧ (arriving (nearLimit 4)).arrivals.drops = 1026#48 :: []
      ∧ ((after .publicationAtDelta (arriving (nearLimit 4))).delta.contexts[(0 : CtxNum)]).isNone = true
      ∧ ((after .publicationAtDelta (arriving (nearLimit 3))).delta.contexts[(0 : CtxNum)]).isSome = true
      ∧ ((after .dropAtDelta (arriving (queueing .backfilling 0))).delta.contexts[(0 : CtxNum)].map Context.position) =
          some 1027#48 := by decide +kernel

/-- `ringed` with a walk at a number, and the newest arrival given. -/
def walkingAt (n : Nat) (arrival : Nat) : State :=
  { withContexts 1 (ctx .backfilling 4 n) with
    delta := { (withContexts 1 (ctx .backfilling 4 n)).delta with lastArrival := some (BitVec.ofNat 48 arrival) } }

theorem witness_walks :
    (walkingAt 1026 1025).delta.contexts[(0 : CtxNum)].map Context.position = some (walkingAt 1026 1025).hist.next
      ∧ (1025#48 - ringed.hist.oldest).toNat < ringed.hist.records.length
      ∧ ringed.hist.records.length ≤ (1023#48 - ringed.hist.oldest).toNat
      ∧ ((after (.walkStep 0) (walkingAt 1025 1025)).delta.contexts[(0 : CtxNum)].map Context.state) = some .opened
      ∧ ((after (.walkStep 0) (walkingAt 1025 1026)).delta.contexts[(0 : CtxNum)].map Context.state) = some .backfilling
      ∧ ((after (.walkStep 0) (walkingAt 1024 1025)).delta.contexts[(0 : CtxNum)].map Context.state) = some .backfilling := by
  decide +kernel

theorem witness_conservation :
    (∀ n : CtxNum, ∀ x ∈ (arriving (nearLimit 3)).delta.contexts[n], x.belowLimit = true)
      ∧ ((after .publicationAtDelta (arriving (nearLimit 3))).delta.contexts[(0 : CtxNum)].map Context.position) =
          some 1027#48
      ∧ ((after (.deltaTake (ask 1) 0#8) (withContexts 1 (queueing .opened 4))).delta.contexts[(0 : CtxNum)].map
          Context.sequence) = some 1#16 := by decide +kernel

theorem witness_lease :
    (99#16).toNat < 100 ∧ 60000 < (60001#16).toNat ∧ 100 ≤ (100#16).toNat ∧ (60000#16).toNat ≤ 60000 ∧ live.cfg.lease = none
      ∧ held.cfg.lease.map Lease.holder = some 0 ∧ held.cfg.waiters = [⟨1, 9#8, 100#16⟩] ++ ⟨3, 4#8, 60000#16⟩ :: []
      ∧ (3 : Port) ∉ [(1 : Port)] ∧ (2 : Port) ∉ held.cfg.waiters.map Waiter.port ∧ held.cfg.holds 0 = true
      ∧ held.cfg.holds 3 = false ∧ (3 : Port) ∈ held.cfg.waiters.map Waiter.port ∧ held.since 1000000#48 < 2 ^ 47
      ∧ 2 ^ 47 ≤ held.since 1000001#48 ∧ alone.cfg.waiters = []
      ∧ held.cfg.waiters = ⟨1, 9#8, 100#16⟩ :: [⟨3, 4#8, 60000#16⟩] := by decide +kernel

theorem witness_lease_ready :
    (∀ k ∈ RequestKind.all, Ready (ask 0) k held = true) ∧ ∀ k ∈ RequestKind.all, Ready (ask 3) k held = true := by
  decide +kernel

theorem witness_staging :
    held.cfg.holds 3 = false ∧ held.cfg.lease.map Lease.holder = some 0 ∧ 1 < (2#8).toNat ∧ headOf 1#8 = some .B
      ∧ 3 < (4#8).toNat ∧ (6553600#32).toInt.natAbs ≤ 6553600 ∧ 6553600 < (-6553601#32).toInt.natAbs
      ∧ (-655360#32).toInt.natAbs ≤ 655360 ∧ 655360 < (655361#32).toInt.natAbs
      ∧ (0x80000001#32).toInt.natAbs ≤ 2147483647 ∧ 2147483647 < (0x80000000#32).toInt.natAbs
      ∧ (2147483647#32).toNat ≤ 2147483647 ∧ 2147483647 < (0x80000000#32).toNat ∧ (501#16).toNat ∉ [500, 1000, 2000, 4000]
      ∧ (500#16).toNat ∈ [500, 1000, 2000, 4000] ∧ 2 < (3#8).toNat := by decide +kernel

/-- `held` with another staged image. -/
def staging (i : Image) : State := { held with cfg := { held.cfg with lease := some ⟨0, 0#48, i⟩ } }

theorem witness_activate :
    (staging Image.default).cfg.lease = some ⟨0, 0#48, Image.default⟩ ∧ Image.default.fault = none
      ∧ ({ Image.default with timing := ⟨.r500, .scaled, 0#16⟩ } : Image).fault = some .scaleFactor
      ∧ ({ Image.default with timing := ⟨.r500, .scaled, 4001#16⟩ } : Image).fault = some .scaleFactor
      ∧ ({ Image.default with timing := ⟨.r500, .scaled, 4000#16⟩ } : Image).fault = none
      ∧ ({ Image.default with
            user :=
              ⟨UserRecord.default,
                { UserRecord.default with
                  gyroAlign := { identityAlign with y := ⟨0#32, 0#32, 0#32⟩ } }⟩ } : Image).fault =
          some (.alignmentDiagonal .B .gyro 1) := by decide +kernel

/-- A commit of port 0 in a phase that began so long ago, its target slot 0 as given. -/
def committing (state : StoreState) (since : Nat) (slot : SlotContents) : State :=
  { held with
    medium := mediumOf slot erased 1 0,
    store :=
      { held.store with
        state := state, phaseStart := 1000000#48 - BitVec.ofNat 48 since,
        commit := some ⟨0, 7#8, false, Image.default, ⟨0, 1#32, 0#16⟩⟩,
        readBack := if state = .verifying then some slot else none } }

theorem witness_commit :
    held.store.current = none ∧ held.medium.writes[0].toNat ≤ held.medium.writes[1].toNat
      ∧ (mediumOf erased erased 1 0).writes[1].toNat < (mediumOf erased erased 1 0).writes[0].toNat
      ∧ held.store.busy = false ∧ (committing .erasing 30000 erased).store.busy = true
      ∧ 100000 ≤ ((mediumOf erased erased 100000 0).writes[0]).toNat ∧ ((mediumOf erased erased 99999 0).writes[0]).toNat < 100000
      ∧ 30000 ≤ (committing .erasing 30000 erased).since (committing .erasing 30000 erased).store.phaseStart
      ∧ 10000 ≤ (committing .writing 10000 erased).since (committing .writing 10000 erased).store.phaseStart
      ∧ 2000 ≤ (committing .verifying 2000 erased).since (committing .verifying 2000 erased).store.phaseStart
      ∧ (committing .verifying 2000 ⟨some 1#32, some Image.default.bytes, none⟩).store.readBack =
          some ⟨some 1#32, some Image.default.bytes, none⟩
      ∧ (committing .verifying 2000 erased).store.readBack = some erased
      ∧ held.store.commit = none ∧ (committing .writing 30000 erased).store.state ≠ .erasing
      ∧ (committing .erasing 29999 erased).since (committing .erasing 29999 erased).store.phaseStart < 30000
      ∧ (committing .writing 9999 erased).since (committing .writing 9999 erased).store.phaseStart < 10000
      ∧ (committing .verifying 1999 erased).since (committing .verifying 1999 erased).store.phaseStart < 2000 := by
  decide +kernel

/-- R141, R149: the target is erased throughout WRITING, and holds the new generation without a check when it ends. -/
theorem test_phases_of_the_slot :
    (after .erasingEnd (committing .erasing 30000 (slotOf 6 directImage))).medium.slots[(0 : Slot)] = erased
      ∧ (after (.writingEnd .sound) (committing .writing 10000 erased)).medium.slots[(0 : Slot)] =
          ⟨some 1#32, some Image.default.bytes, none⟩ := by decide +kernel

/-- A current slot at the last generation, and one before it. -/
theorem witness_commit_generations :
    ({ held.store with current := some 1, slotGeneration := #v[0#32, 0xFFFFFFFF#32] } : Store).slotGeneration[(1 : Slot)] =
        0xFFFFFFFF#32
      ∧ ({ held.store with current := some 0, slotGeneration := #v[7#32, 0#32] } : Store).slotGeneration[(0 : Slot)] ≠
        0xFFFFFFFF#32 := by decide +kernel

/-- A step of a state in every form that the invariants ask for. -/
theorem witness_invariant_steps :
    step ringed = .next (Out.state (step ringed)) ∧ ringed.cfg.ImagesInRange ∧ ringed.cfg.LeaseConsistent
      ∧ ringed.links.a.Consistent := by
  refine ⟨rfl, ?_, ?_, ?_⟩
  · exact ⟨by decide +kernel, fun l h => nomatch h⟩
  · exact ⟨by decide +kernel, rfl⟩
  · unfold Link.Consistent; decide +kernel

theorem witness_store_steps :
    (committing .verifying 2000 ⟨some 1#32, some Image.default.bytes, none⟩).StoreConsistent
      ∧ (committing .verifying 2000 ⟨some 1#32, some Image.default.bytes, none⟩).cfg.active.inRange = true := by
  refine ⟨⟨fun _ => ?_, fun h => ?_, fun h => ?_, fun c h => ?_⟩, by decide +kernel⟩
  · show Medium.newest _ = 0; decide +kernel
  · revert h; decide +kernel
  · revert h; decide +kernel
  · cases h; unfold State.CommitConsistent; decide +kernel

end Sys2Proof.Tests
end

/-! SUPPORT. Proofs about the delta contexts: what every command keeps of the queues, the condition sets, the lease, the images
and the contexts; the requests, arrivals and walk of DELTA; PORT_RESET; the status summary; and part reset. -/

namespace Sys2Proof.Machine

-- One theorem at a time: the check gives every concurrent one a large stack of its own.
set_option Elab.async false

/-! ## Entries of the tables -/

/-- A write to a table at one index is read back there and leaves every other index. -/
theorem getElem_set_fin {α : Type} {m : Nat} (v : Vector α m) (i j : Fin m) (a : α) :
    (v.set i a)[j] = if j = i then a else v[j] := by
  by_cases h : j = i
  · subst h; simp
  · have : i.val ≠ j.val := fun e => h (Fin.ext e.symm)
    simp [h, this]

theorem State.modifyPort_port (s : State) (p q : Port) (f : PortState → PortState) :
    (s.modifyPort p f).ports[q] = if q = p then f s.ports[p] else s.ports[q] :=
  getElem_set_fin s.ports p q _

theorem State.modifyReader_reader (s : State) (p q : Port) (f : Reader → Reader) :
    (s.modifyReader p f).hist.readers[q] = if q = p then f s.hist.readers[p] else s.hist.readers[q] :=
  getElem_set_fin s.hist.readers p q _

theorem State.setContext_entry (s : State) (n m : CtxNum) (v : Option Context) :
    (s.setContext n v).delta.contexts[m] = if m = n then v else s.delta.contexts[m] :=
  getElem_set_fin s.delta.contexts n m v

/-- The entries a port owns after one of them is written: the old one leaves the count and the new one enters it (R1). -/
theorem State.owned_setContext (s : State) (n : CtxNum) (v : Option Context) (p : Port) :
    (s.setContext n v).delta.owned p + (if ownedBy p s.delta.contexts[n] then 1 else 0) =
      s.delta.owned p + (if ownedBy p v then 1 else 0) := by
  have hle : (if ownedBy p s.delta.contexts[n] then 1 else 0) ≤ s.delta.contexts.countP (ownedBy p) :=
    Vector.boole_getElem_le_countP n.isLt
  have hset : (s.delta.contexts.set n v).countP (ownedBy p) =
      s.delta.contexts.countP (ownedBy p) - (if ownedBy p s.delta.contexts[n] then 1 else 0)
        + (if ownedBy p v then 1 else 0) := Vector.countP_set n.isLt
  simp only [DeltaEngine.owned, State.setContext_delta, Vector.countP_toList, hset]
  omega

/-! ## What every step keeps -/

/-- Reply queues within their depth (R175). -/
def State.RepliesBounded (s : State) : Prop := ∀ p : Port, s.ports[p].queue.length ≤ Config.replyDepth

/-- Take queues and owned entries within their limits (R1). -/
def DeltaEngine.Bounded (d : DeltaEngine) : Prop :=
  (∀ n : CtxNum, ∀ c, d.contexts[n] = some c → c.queue.length ≤ Config.takeDepth)
    ∧ ∀ p : Port, d.owned p ≤ Config.contextsPerPort

/-- From `s` to `t` no context changes, and the reply queues, the condition sets, the lease and the images keep their
form. -/
structure State.Calm (s t : State) : Prop where
  contexts : t.delta.contexts = s.delta.contexts
  replies : s.RepliesBounded → t.RepliesBounded
  sets : s.SetsOrdered → t.SetsOrdered
  lease : s.cfg.LeaseConsistent → t.cfg.LeaseConsistent
  images : s.cfg.ImagesInRange → t.cfg.ImagesInRange

namespace State.Calm

/-- A change outside the context table, the ports, CFG and COND. -/
theorem of_frame {s t : State} (hd : t.delta.contexts = s.delta.contexts) (hp : t.ports = s.ports) (hg : t.cfg = s.cfg)
    (hc : t.cond = s.cond) : s.Calm t where
  contexts := hd
  replies := by simp only [RepliesBounded, hp]; exact id
  sets := by simp only [SetsOrdered, hc]; exact id
  lease := by rw [hg]; exact id
  images := by rw [hg]; exact id

theorem refl (s : State) : s.Calm s := of_frame rfl rfl rfl rfl

theorem trans {s t u : State} (h : s.Calm t) (g : t.Calm u) : s.Calm u where
  contexts := g.contexts.trans h.contexts
  replies := g.replies ∘ h.replies
  sets := g.sets ∘ h.sets
  lease := g.lease ∘ h.lease
  images := g.images ∘ h.images

/-- A change of CFG alone. -/
theorem of_cfg {s t : State} (hd : t.delta.contexts = s.delta.contexts) (hp : t.ports = s.ports) (hc : t.cond = s.cond)
    (lease : s.cfg.LeaseConsistent → t.cfg.LeaseConsistent) (images : s.cfg.ImagesInRange → t.cfg.ImagesInRange) :
    s.Calm t where
  contexts := hd
  replies := by simp only [RepliesBounded, hp]; exact id
  sets := by simp only [SetsOrdered, hc]; exact id
  lease := lease
  images := images

/-- A change of COND alone. -/
theorem of_cond {s t : State} (hd : t.delta.contexts = s.delta.contexts) (hp : t.ports = s.ports) (hg : t.cfg = s.cfg)
    (sets : s.SetsOrdered → t.SetsOrdered) : s.Calm t where
  contexts := hd
  replies := by simp only [RepliesBounded, hp]; exact id
  sets := sets
  lease := by rw [hg]; exact id
  images := by rw [hg]; exact id

/-- A change of the ports alone. -/
theorem of_ports {s t : State} (hd : t.delta.contexts = s.delta.contexts) (hg : t.cfg = s.cfg) (hc : t.cond = s.cond)
    (replies : s.RepliesBounded → t.RepliesBounded) : s.Calm t where
  contexts := hd
  replies := replies
  sets := by simp only [SetsOrdered, hc]; exact id
  lease := by rw [hg]; exact id
  images := by rw [hg]; exact id

/-! Each shared operation is calm; the lemmas extend a calm change by one operation. -/

variable {s t : State}

theorem frame (h : s.Calm t) {u : State} (hd : u.delta.contexts = t.delta.contexts := by rfl) (hp : u.ports = t.ports := by rfl)
    (hg : u.cfg = t.cfg := by rfl) (hc : u.cond = t.cond := by rfl) : s.Calm u :=
  h.trans (of_frame hd hp hg hc)

theorem raise (h : s.Calm t) (c : Cond) : s.Calm (t.raise c) :=
  h.trans <| of_cond rfl rfl rfl fun ho p => by
    simpa [Conditions.count] using insertCond_sorted c _ (ho p)

theorem raisePort (h : s.Calm t) (c : Cond) (q : Port) : s.Calm (t.raisePort c q) :=
  h.trans <| of_cond rfl rfl rfl fun ho p => by
    have hset : (t.raisePort c q).cond.sets[p] = if p = q then insertCond c t.cond.sets[q] else t.cond.sets[p] :=
      getElem_set_fin t.cond.sets q p _
    rw [hset]
    split
    · exact insertCond_sorted c _ (ho q)
    · exact ho p

theorem raiseIf (h : s.Calm t) (b : Bool) (c : Cond) : s.Calm (t.raiseIf b c) := by
  unfold State.raiseIf
  split
  · exact h.raise c
  · exact h

theorem clearConditions (h : s.Calm t) (q : Port) : s.Calm (t.clearConditions q) :=
  h.trans <| of_cond rfl rfl rfl fun ho p => by
    have hset : (t.clearConditions q).cond.sets[p] = if p = q then [] else t.cond.sets[p] :=
      getElem_set_fin t.cond.sets q p _
    rw [hset]
    split
    · exact List.Pairwise.nil
    · exact ho p

/-- A change of one port that lengthens its queue by nothing. -/
theorem modifyPort (h : s.Calm t) (p : Port) (f : PortState → PortState)
    (hf : (f t.ports[p]).queue.length ≤ t.ports[p].queue.length) : s.Calm (t.modifyPort p f) :=
  h.trans <| of_ports rfl rfl rfl fun hb q => by
    rw [State.modifyPort_port]
    split
    · exact hf.trans (hb p)
    · exact hb q

theorem modifyLink (h : s.Calm t) (x : Head) (f : Link → Link) : s.Calm (t.modifyLink x f) := h.frame

theorem modifyReader (h : s.Calm t) (p : Port) (f : Reader → Reader) : s.Calm (t.modifyReader p f) := h.frame

theorem complete (h : s.Calm t) (p : Port) (r : Reply) : s.Calm (t.complete p r) := h.frame

theorem issueStrobe (h : s.Calm t) (time : Micros) (fb : Bool) (g : Option SyncTag) : s.Calm (t.issueStrobe time fb g) :=
  h.frame

theorem appendReply (h : s.Calm t) (p : Port) (r : Reply) : s.Calm (t.appendReply p r) := by
  by_cases room : t.ports[p].queue.length < Config.replyDepth
  · refine h.trans (of_ports (by simp) (State.appendReply_cfg t p r) ?_
      fun hb q => t.appendReply_bounded p q r hb)
    rw [t.appendReply_room p r room, State.modifyPort_cond]
  · rw [t.appendReply_full p r room]
    exact h.raisePort _ _

theorem frameError (h : s.Calm t) (p : Port) (kind tag : Byte) (reason : FrameReason) (n : Nat) :
    s.Calm (t.frameError p kind tag reason n) := (h.raisePort .frameError p).appendReply p _

end State.Calm

namespace State.Calm

variable {s t : State}

/-! ### Transactions -/

/-- The end of a transaction is calm when what takes its request is. -/
theorem endTransaction (h : s.Calm t) (p : Port) (n : Nat) (take : Bool → State → State)
    (htake : ∀ early u, s.Calm u → s.Calm (take early u)) : s.Calm (t.endTransaction p n take) := by
  unfold State.endTransaction
  split
  · exact h.modifyPort p _ le_rfl
  · next tx _ =>
    refine htake _ _ (h.modifyPort p _ ?_)
    cases tx.sentWhole n <;> simp

theorem served (h : s.Calm t) (r : Req) (k : RequestKind) : s.Calm (t.served r k) :=
  h.endTransaction _ _ _ fun _ _ hu => hu

theorem chipSelectFall (h : s.Calm t) (p : Port) (sooner : Bool) : s.Calm (chipSelectFall p sooner t) := by
  have hqueue : (t.formReply p sooner).2.length ≤ t.ports[p].queue.length := by
    unfold State.formReply
    split <;> simp_all
  unfold Machine.chipSelectFall
  split
  · exact h
  · split
    · exact h.modifyPort p _ hqueue
    · exact h.modifyPort p (fun q => { q with csLow := true }) le_rfl

theorem takeMalformed (h : s.Calm t) (p : Port) (bytes : List Byte) (found : Received) (early : Bool) :
    s.Calm (takeMalformed p bytes found early t) := by
  unfold Machine.takeMalformed
  split
  · exact h.frameError ..
  · split
    · exact h.frameError ..
    · exact h.appendReply ..
    · exact h.appendReply ..
    · exact h
    · exact h

theorem completionArrival (h : s.Calm t) (i : Nat) : s.Calm (completionArrival i t) := by
  unfold Machine.completionArrival
  split
  · exact h
  · exact (h.frame : s.Calm _).appendReply _ _

theorem setAttention (h : s.Calm t) (p : Port) (mask : Byte) : s.Calm (setAttention p mask t).state := by
  unfold Machine.setAttention
  split
  · exact h
  · next m _ =>
    exact h.modifyPort p (fun q => { q with mask := m }) le_rfl

/-! ### Time base -/

theorem startInterval (h : s.Calm t) (o : Micros) (c : BitVec 16) (m : Nat) : s.Calm (t.startInterval o c m) := by
  unfold State.startInterval
  split <;> exact h.frame

theorem lockAt (h : s.Calm t) (ref : LockRef) : s.Calm (t.lockAt ref) :=
  (h.frame : s.Calm _).startInterval ..

theorem rejectPulse (h : s.Calm t) : s.Calm (rejectPulse t) := (h.frame : s.Calm _).raiseIf ..

theorem acquirePulse (h : s.Calm t) : s.Calm (acquirePulse t) := by
  unfold Machine.acquirePulse
  split
  · exact h.frame
  · dsimp only
    split
    · exact ((h.frame : s.Calm _).raiseIf ..).lockAt _
    · exact (h.frame : s.Calm _).raiseIf ..

theorem lockedPulse (h : s.Calm t) (ref : LockRef) : s.Calm (lockedPulse ref t) := by
  unfold Machine.lockedPulse
  dsimp only
  split
  · split
    · exact (h.raise _).rejectPulse
    · exact h.lockAt _
  · exact h.rejectPulse

theorem holdoverPulse (h : s.Calm t) (ref : LockRef) : s.Calm (holdoverPulse ref t) := by
  unfold Machine.holdoverPulse
  split
  · exact h.lockAt _
  · exact h.rejectPulse

theorem syncPulse (h : s.Calm t) : s.Calm (syncPulse t) := by
  unfold Machine.syncPulse
  split
  · split
    · exact h.frame
    · exact h.acquirePulse
    · exact h.lockedPulse _
    · exact h.holdoverPulse _
    · exact h
    · exact h
  · exact h

theorem freeStrobe (h : s.Calm t) : s.Calm (freeStrobe t) := by
  unfold Machine.freeStrobe
  split
  · exact h.issueStrobe ..
  · exact h

theorem syncEdge (h : s.Calm t) : s.Calm (syncEdge t) := by
  unfold Machine.syncEdge
  split
  · split
    · exact h.frame
    · exact (h.frame : s.Calm _).raise _
  · exact h

theorem fallbackCheck (h : s.Calm t) : s.Calm (fallbackCheck t) := by
  unfold Machine.fallbackCheck
  split
  · exact (h.frame : s.Calm _).raise _
  · exact h

theorem scheduledStrobe (h : s.Calm t) : s.Calm (scheduledStrobe t) := by
  unfold Machine.scheduledStrobe
  split
  · exact h
  · split
    · exact h.frame
    · exact h

theorem virtualOrigin (h : s.Calm t) : s.Calm (virtualOrigin t) := by
  unfold Machine.virtualOrigin
  split
  · exact h
  · split
    · exact h.startInterval ..
    · exact h

theorem holdoverDeadline (h : s.Calm t) : s.Calm (holdoverDeadline t) := by
  unfold Machine.holdoverDeadline
  split
  · exact (h.frame : s.Calm _).raiseIf ..
  · exact h

theorem holdoverEnd (h : s.Calm t) : s.Calm (holdoverEnd t) := by
  unfold Machine.holdoverEnd
  split
  · exact h.frame
  · exact h

theorem changeTiming (h : s.Calm t) (new : Timing) : s.Calm (t.changeTiming new) := by
  by_cases same : t.tb.timing = some new
  · rw [t.changeTiming_same new same]
    exact h
  · rw [t.changeTiming_other new same]
    have hu : s.Calm { t with tb := t.tb.retime new } := h.frame
    obtain e | ⟨-, -, e⟩ | ⟨-, -, e⟩ := State.issueOverdue_cases { t with tb := t.tb.retime new }
    · rw [e]; exact hu
    · rw [e]; exact hu.freeStrobe
    · rw [e]; exact hu.fallbackCheck

theorem timingArrival (h : s.Calm t) : s.Calm (timingArrival t) := by
  unfold Machine.timingArrival
  split
  · exact h
  · exact (h.frame : s.Calm _).changeTiming _

theorem startStrobing (h : s.Calm t) (timing : Timing) : s.Calm (t.startStrobing timing) := by
  unfold State.startStrobing
  dsimp only
  split
  · exact h.frame
  · exact (h.frame : s.Calm _).issueStrobe ..
  · exact (h.frame : s.Calm _).issueStrobe ..

/-! ### Selector -/

theorem closeWindow (h : s.Calm t) : s.Calm t.closeWindow := by
  cases hc : t.sel.current with
  | none => simpa only [State.closeWindow, hc] using h
  | some strobe =>
    rw [t.closeWindow_some strobe hc]
    exact (h.frame : s.Calm _).raiseIf ..

theorem openWindow (h : s.Calm t) (strobe : Strobe) : s.Calm (t.openWindow strobe) := by
  unfold State.openWindow
  dsimp only
  split
  · exact (h.frame : s.Calm _).closeWindow
  · exact h.frame

theorem strobeAtSel (h : s.Calm t) (strobe : Strobe) : s.Calm (t.strobeAtSel strobe) := by
  unfold State.strobeAtSel
  split
  · exact h.closeWindow.openWindow strobe
  · exact h.openWindow strobe

theorem strobeArrival (h : s.Calm t) : s.Calm (strobeArrival t) := by
  unfold Machine.strobeArrival
  split
  · exact h
  · exact (h.frame : s.Calm _).strobeAtSel _

theorem recordFrame (h : s.Calm t) (x : Head) (f : SampleFrame) : s.Calm (t.recordFrame x f) := by
  unfold State.recordFrame
  dsimp only
  split
  · exact (h.frame : s.Calm _).closeWindow
  · exact h.frame

/-! ### Head links -/

theorem endCommand (h : s.Calm t) (x : Head) (r : Result) (d : CommandDetail) : s.Calm (t.endCommand x r d) := by
  rw [State.endCommand_eq]
  split
  · exact (h.raise (.headSelfTestFail x)).frame
  · exact h.frame

theorem placeCommand (h : s.Calm t) (x : Head) (k : CommandKind) (o : Origin) : s.Calm (t.placeCommand x k o) := h.frame

theorem keepIdentifying (h : s.Calm t) (x : Head) : s.Calm (t.keepIdentifying x) := by
  unfold State.keepIdentifying
  dsimp only
  split
  · exact h.placeCommand ..
  · exact h

theorem enterFaulted (h : s.Calm t) (x : Head) : s.Calm (t.enterFaulted x) :=
  ((h.modifyLink x _).endCommand x _ _).raise _

theorem enterAbsent (h : s.Calm t) (x : Head) : s.Calm (t.enterAbsent x) :=
  ((h.modifyLink x _).endCommand x _ _).raise _

theorem enterForeign (h : s.Calm t) (x : Head) : s.Calm (t.enterForeign x) := (h.modifyLink x _).raise _

theorem checkSilence (h : s.Calm t) (x : Head) : s.Calm (t.checkSilence x) := by
  unfold State.checkSilence
  split
  · exact h.enterAbsent x
  · exact h

theorem linkError (h : s.Calm t) (x : Head) (e : LinkError) : s.Calm (t.linkError x e) := by
  unfold State.linkError
  dsimp only
  split
  · exact h.modifyLink ..
  · exact h.modifyLink ..
  · exact ((h.modifyLink ..).modifyLink ..).checkSilence x
  · exact ((h.modifyLink ..).modifyLink ..).checkSilence x
  · split
    · exact ((h.modifyLink ..).modifyLink ..).enterFaulted x
    · exact ((h.modifyLink ..).modifyLink ..).checkSilence x

theorem acceptedAtLink (h : s.Calm t) (x : Head) (status : Byte) : s.Calm (t.acceptedAtLink x status) := by
  unfold State.acceptedAtLink
  dsimp only
  split
  · exact h.modifyLink ..
  · exact h.modifyLink ..
  · exact h.modifyLink ..
  · split
    · exact ((h.raiseIf ..).endCommand ..).modifyLink ..
    · exact (h.raiseIf ..).modifyLink ..
  · split
    · exact (h.endCommand ..).modifyLink ..
    · exact h.modifyLink ..

theorem sampleArrival (h : s.Calm t) (x : Head) (f : SampleFrame) : s.Calm (sampleArrival x f t) := by
  unfold Machine.sampleArrival
  split
  · exact ((((h.modifyLink ..).acceptedAtLink ..).modifyLink ..).keepIdentifying x).recordFrame x f
  · exact (h.linkError ..).keepIdentifying x

theorem identify (h : s.Calm t) (x : Head) (serial : BitVec 32) : s.Calm (t.identify x serial) := by
  unfold State.identify
  split
  · split
    · exact h.modifyLink ..
    · exact h.enterForeign x
  · exact h

theorem acceptResponse (h : s.Calm t) (x : Head) (body : ResponseBody) : s.Calm (t.acceptResponse x body) := by
  unfold State.acceptResponse
  dsimp only
  split
  · exact ((h.modifyLink ..).endCommand ..).identify ..
  · split <;> exact (h.modifyLink ..).endCommand ..

theorem responseArrival (h : s.Calm t) (x : Head) (body : ResponseBody) : s.Calm (responseArrival x body t) := by
  unfold Machine.responseArrival
  split
  · exact (h.acceptResponse ..).keepIdentifying x
  · exact (h.linkError ..).keepIdentifying x

theorem brokenArrival (h : s.Calm t) (x : Head) (bytes : List Byte) : s.Calm (brokenArrival x bytes t) := by
  unfold Machine.brokenArrival
  split
  · exact h.sampleArrival ..
  · exact h.responseArrival ..
  · exact (h.linkError ..).keepIdentifying x

theorem commandTimeout (h : s.Calm t) (x : Head) : s.Calm (commandTimeout x t) := by
  unfold Machine.commandTimeout
  split
  · exact (h.endCommand ..).keepIdentifying x
  · exact h

theorem missArrival (h : s.Calm t) (x : Head) : s.Calm (missArrival x t) := by
  unfold Machine.missArrival
  split
  · exact h
  · exact ((h.frame : s.Calm _).linkError ..).keepIdentifying x

theorem strobeAtLink (h : s.Calm t) (x : Head) : s.Calm (strobeAtLink x t) := by
  unfold Machine.strobeAtLink
  split
  · exact h
  · unfold State.strobeAt
    dsimp only
    split
    · exact (((h.frame : s.Calm _).modifyLink ..).modifyLink ..).checkSilence x
    · exact (h.frame : s.Calm _).modifyLink ..

theorem hostCommand (h : s.Calm t) (x : Head) (k : CommandKind) (p : Port) (tag : Byte) :
    s.Calm (hostCommand x k p tag t).state := by
  unfold Machine.hostCommand
  split
  · exact h
  · split
    · exact h
    · exact h.placeCommand ..

theorem headIdent (h : s.Calm t) (p : Port) (tag head : Byte) : s.Calm (headIdent p tag head t).state := by
  unfold Machine.headIdent
  split
  · exact h
  · exact h.hostCommand ..

theorem headTest (h : s.Calm t) (p : Port) (tag head : Byte) : s.Calm (headTest p tag head t).state := by
  unfold Machine.headTest
  split
  · exact h
  · split
    · exact h.hostCommand ..
    · exact h

/-! ### History -/

theorem overrunPort (h : s.Calm t) (dropped : PubNum) (p : Port) : s.Calm (t.overrunPort dropped p) := by
  unfold State.overrunPort
  split
  · exact (h.modifyReader ..).raisePort ..
  · exact h

theorem dropOldest (h : s.Calm t) : s.Calm t.dropOldest :=
  ((((h.frame : s.Calm _).overrunPort _ 0).overrunPort _ 1).overrunPort _ 2).overrunPort _ 3

theorem placeRecord (h : s.Calm t) (p : Publication) : s.Calm (t.placeRecord p) := h.frame

theorem appendRecord (h : s.Calm t) (p : Publication) : s.Calm (t.appendRecord p) := by
  unfold State.appendRecord
  split
  · exact h.dropOldest.placeRecord p
  · exact h.placeRecord p

theorem appendArrival (h : s.Calm t) : s.Calm (appendArrival t) := by
  unfold Machine.appendArrival
  split
  · exact h
  · exact (h.frame : s.Calm _).appendRecord _

theorem histRead (h : s.Calm t) (p : Port) (max : Byte) : s.Calm (histRead p max t).state := by
  unfold Machine.histRead
  split
  · exact h
  · exact h.frame

theorem histPeek (h : s.Calm t) (p : Port) : s.Calm (histPeek p t).state := by
  unfold Machine.histPeek
  split <;> exact h

theorem histSeek (h : s.Calm t) (p : Port) (form : Byte) (n : PubNum) : s.Calm (histSeek p form n t).state := by
  unfold Machine.histSeek
  split
  · exact h
  · exact h.frame

theorem histWatermark (h : s.Calm t) (p : Port) (v : BitVec 16) : s.Calm (histWatermark p v t).state := by
  unfold Machine.histWatermark
  split
  · exact h
  · exact h.frame

/-! ### Conditions and store -/

theorem levelArrival (h : s.Calm t) : s.Calm (levelArrival t) := by
  unfold Machine.levelArrival
  split
  · exact h
  · next rest _ =>
    have hfold : ∀ (l : List Cond) (u : State), s.Calm u → s.Calm (l.foldl (fun v c => v.raise c) u) := by
      intro l
      induction l with
      | nil => exact fun _ hu => hu
      | cons c l ih => exact fun _ hu => ih _ (hu.raise c)
    exact hfold _ _ h.frame

theorem calRead (h : s.Calm t) (p : Port) (head form : Byte) : s.Calm (calRead p head form t).state := by
  unfold Machine.calRead
  split
  · exact h
  · exact h
  · exact h
  · exact h
  · split
    · split <;> exact h
    · exact h

theorem storeCommit (h : s.Calm t) (p : Port) (tag : Byte) : s.Calm (storeCommit p tag t).state := by
  unfold Machine.storeCommit
  dsimp only
  split
  · exact h
  · split
    · exact h
    · split
      · exact h
      · split
        · exact h
        · exact h.frame

theorem reportCommit (h : s.Calm t) (c : Commit) (r : Result) : s.Calm (t.reportCommit c r) :=
  h.frame (by simp) (by simp) (by simp) (by simp)

theorem erasingEnd (h : s.Calm t) : s.Calm (erasingEnd t) := by
  unfold Machine.erasingEnd
  split
  · exact h
  · split
    · exact h.frame
    · exact h

theorem writingEnd (h : s.Calm t) (outcome : MediumOutcome) : s.Calm (writingEnd outcome t) := by
  unfold Machine.writingEnd
  split
  · exact h
  · split
    · exact h.frame
    · exact h

theorem verifyingEnd (h : s.Calm t) : s.Calm (verifyingEnd t) := by
  unfold Machine.verifyingEnd
  split
  · exact h
  · split
    · split
      · exact (h.frame : s.Calm _).reportCommit ..
      · exact ((h.frame : s.Calm _).raise _).reportCommit ..
    · exact h

end State.Calm

/-! ## The lease and the images -/

theorem Image.inRange_iff (i : Image) : i.inRange = true ↔ i.stageable = true ∧ i.fault = none := by
  simp [Image.inRange, Image.stageable, and_assoc]

theorem ConfigUnit.ImagesInRange.stageable {c : ConfigUnit} (h : c.ImagesInRange) : c.active.stageable = true :=
  ((Image.inRange_iff _).1 h.1).1

theorem ConfigUnit.holds_iff (c : ConfigUnit) (p : Port) : c.holds p = true ↔ c.lease.map Lease.holder = some p := by
  unfold ConfigUnit.holds
  cases c.lease <;> simp

theorem ConfigUnit.waiterPosition_isSome (c : ConfigUnit) (p : Port) :
    (c.waiterPosition p).isSome = true ↔ p ∈ c.waiters.map Waiter.port := by
  simp [ConfigUnit.waiterPosition, List.findIdx?_isSome]

/-- With the lease changed to one of the same holder, the queue of waiters still fits (R122). -/
theorem ConfigUnit.LeaseConsistent.sameHolder {c : ConfigUnit} (h : c.LeaseConsistent) {l : Lease} (hl : c.lease = some l)
    {d : ConfigUnit} {m : Lease} (hd : d.lease = some m) (hm : m.holder = l.holder) (hw : d.waiters = c.waiters) :
    d.LeaseConsistent := by
  obtain ⟨nodup, out⟩ := h
  simp only [hl] at out
  refine ⟨hw ▸ nodup, ?_⟩
  simp only [hd, hm, hw]
  exact out

/-- A waiter who leaves takes nothing from the form of the lease (R124, R129). -/
theorem ConfigUnit.LeaseConsistent.withoutWaiter {c : ConfigUnit} (h : c.LeaseConsistent) (p : Port) :
    (c.withoutWaiter p).LeaseConsistent := by
  obtain ⟨nodup, out⟩ := h
  have sub : (c.waiters.filter fun w => w.port ≠ p).Sublist c.waiters := List.filter_sublist
  refine ⟨nodup.sublist (sub.map _), ?_⟩
  cases hl : c.lease with
  | none => simp_all [ConfigUnit.withoutWaiter]
  | some l =>
    simp only [hl] at out
    simp only [ConfigUnit.withoutWaiter, hl]
    exact fun hm => out ((sub.map _).subset hm)

/-- The lease left FREE passes to the oldest waiter, who waits no more (R122, R127). -/
theorem ConfigUnit.LeaseConsistent.endLease {s : State} (h : s.cfg.LeaseConsistent) : s.endLease.cfg.LeaseConsistent := by
  obtain ⟨nodup, -⟩ := h
  cases hw : s.cfg.waiters with
  | nil => simp [s.endLease_free hw, ConfigUnit.LeaseConsistent, hw]
  | cons w rest =>
    rw [hw] at nodup
    obtain ⟨fresh, rest⟩ := List.nodup_cons.1 nodup
    rw [s.endLease_waiter w _ hw]
    exact ⟨rest, fresh⟩

/-- The staged image of a new holder is the active one (R127). -/
theorem ConfigUnit.ImagesInRange.endLease {s : State} (h : s.cfg.ImagesInRange) : s.endLease.cfg.ImagesInRange := by
  cases hw : s.cfg.waiters with
  | nil => simpa [s.endLease_free hw, ConfigUnit.ImagesInRange] using h.1
  | cons w rest =>
    rw [s.endLease_waiter w _ hw]
    refine ⟨h.1, fun l hl => ?_⟩
    cases hl
    exact h.stageable

/-- A user record with a group of examined values within their range stays within range (R69, R132). -/
theorem UserRecord.inRange_withGroup (u : UserRecord) (g : CalGroup) (values : Mat3 (BitVec 32))
    (hu : u.inRange = true) (hg : g.firstBad values = none) : (u.withGroup g values).inRange = true := by
  have good : (g.examined values).all (within g.limit) = true := by
    simpa [CalGroup.firstBad, List.findIdx?_eq_none_iff] using hg
  simp only [UserRecord.inRange, Bool.and_eq_true] at hu ⊢
  obtain ⟨⟨⟨hgt, hat⟩, hga⟩, haa⟩ := hu
  cases g with
  | gyroBias => exact ⟨⟨⟨good, hat⟩, hga⟩, haa⟩
  | accelBias => exact ⟨⟨⟨hgt, good⟩, hga⟩, haa⟩
  | gyroMatrix => exact ⟨⟨⟨hgt, hat⟩, good⟩, haa⟩
  | accelMatrix => exact ⟨⟨⟨hgt, hat⟩, hga⟩, good⟩

theorem Image.stageable_iff (i : Image) :
    i.stageable = true ↔
      (∀ x, (i.user.get x).inRange = true) ∧ i.gyroThreshold.toNat ≤ thresholdLimit
        ∧ i.accelThreshold.toNat ≤ thresholdLimit := by
  simp only [Image.stageable, Bool.and_eq_true, decide_eq_true_eq]
  constructor
  · rintro ⟨⟨⟨ha, hb⟩, hg⟩, hc⟩
    exact ⟨fun x => by cases x <;> assumption, hg, hc⟩
  · rintro ⟨hu, hg, hc⟩
    exact ⟨⟨⟨hu .A, hu .B⟩, hg⟩, hc⟩

/-- A slot is loaded only with an image within the ranges (R141). -/
theorem slotImage_inRange (c : SlotContents) (writes : BitVec 32) (i : Image) (h : slotImage c writes = some i) :
    i.inRange = true := by
  unfold slotImage at h
  split at h
  · split at h
    · split at h
      · split at h
        · cases h; assumption
        · cases h
      · cases h
    · cases h
  · cases h

theorem Image.default_inRange : Image.default.inRange = true := by decide

/-- The load places an image within the ranges (R119, R145). -/
theorem Medium.choose_inRange (m : Medium) : m.choose.image.inRange = true := by
  unfold Medium.choose
  split
  · next h0 h1 =>
    split
    · exact slotImage_inRange _ _ _ h1
    · exact slotImage_inRange _ _ _ h0
  · next h0 _ => exact slotImage_inRange _ _ _ h0
  · next h1 => exact slotImage_inRange _ _ _ h1
  · split <;> exact Image.default_inRange

namespace State.Calm

variable {s t : State}

theorem endLease (h : s.Calm t) : s.Calm t.endLease :=
  h.trans <| of_cfg (by simp) (by simp) (by simp) ConfigUnit.LeaseConsistent.endLease ConfigUnit.ImagesInRange.endLease

theorem withoutWaiter (h : s.Calm t) (p : Port) : s.Calm { t with cfg := t.cfg.withoutWaiter p } :=
  h.trans <| of_cfg rfl rfl rfl (·.withoutWaiter p) id

theorem resetLease (h : s.Calm t) (p : Port) : s.Calm (t.resetLease p).1 := by
  unfold State.resetLease
  split
  · exact h.endLease
  · split
    · exact h.withoutWaiter p
    · exact h

theorem leaseRelease (h : s.Calm t) (p : Port) : s.Calm (leaseRelease p t).state := by
  unfold Machine.leaseRelease
  split
  · exact h.endLease
  · split
    · exact h.withoutWaiter p
    · exact h

theorem leaseExpiry (h : s.Calm t) : s.Calm (leaseExpiry t) := by
  unfold Machine.leaseExpiry
  split
  · exact h
  · split
    · exact (h.raisePort ..).endLease
    · exact h

/-- A free lease has no waiters, so its new holder does not wait (R122, R123). -/
theorem grant (h : s.Calm t) (free : t.cfg.lease = none) (p : Port) (period : BitVec 16) : s.Calm (t.grant p period) :=
  h.trans <| of_cfg rfl rfl rfl
    (fun ⟨nodup, empty⟩ => by
      simp only [free] at empty
      exact ⟨nodup, by simp [empty]⟩)
    (fun hi => ⟨hi.1, fun l hl => by cases hl; exact hi.stageable⟩)

/-- The lease rewritten with the same holder and an image that staging can make. -/
theorem setLease (h : s.Calm t) {l : Lease} (hl : t.cfg.lease = some l) (m : Lease) (holder : m.holder = l.holder)
    (staged : t.cfg.ImagesInRange → m.staged.stageable = true) :
    s.Calm { t with cfg := { t.cfg with lease := some m } } :=
  h.trans <| of_cfg rfl rfl rfl (fun hc => hc.sameHolder hl rfl holder rfl)
    (fun hi => ⟨hi.1, fun n hn => by cases hn; exact staged hi⟩)

theorem leaseAcquire (h : s.Calm t) (p : Port) (tag wait : Byte) (period : BitVec 16) :
    s.Calm (leaseAcquire p tag wait period t).state := by
  unfold Machine.leaseAcquire
  split
  · exact h
  split
  · next free => exact h.grant free p period
  · next l hl =>
    split
    · exact h.setLease hl _ rfl fun hi => hi.2 l hl
    · next other =>
      split
      · exact h
      · next fresh =>
        split
        · exact h
        · have notIn : p ∉ t.cfg.waiters.map Waiter.port := by
            rw [← ConfigUnit.waiterPosition_isSome, fresh]; simp
          refine h.trans <| of_cfg rfl rfl rfl (fun ⟨nodup, out⟩ => ?_) id
          simp only [hl] at out
          refine ⟨?_, ?_⟩
          · rw [List.map_append]
            exact List.nodup_append.2 ⟨nodup, by simp, by
              rintro a ha b hb rfl
              simp only [List.map_cons, List.map_nil, List.mem_singleton] at hb
              exact notIn (hb ▸ ha)⟩
          · simp only [hl, List.map_append, List.mem_append, not_or]
            exact ⟨out, by simpa using other⟩

/-- A staging request changes nothing unless its port holds the lease, and is then calm when its own part is. -/
theorem asHolder (h : s.Calm t) (p : Port) (f : Lease → Answer)
    (hf : ∀ l, t.cfg.lease = some l → s.Calm (f l).state) : s.Calm (asHolder p t f).state := by
  unfold Machine.asHolder
  split
  · exact h
  · next l hl =>
    split
    · exact hf l hl
    · exact h

theorem stageCal (h : s.Calm t) (p : Port) (head group : Byte) (values : Mat3 (BitVec 32)) :
    s.Calm (stageCal p head group values t).state := by
  refine h.asHolder p _ fun l hl => ?_
  dsimp only
  split
  · exact h
  · exact h
  · next x g _ _ =>
    split
    · exact h
    · next good =>
      refine h.setLease hl _ rfl fun hi => ?_
      obtain ⟨users, thresholds⟩ := (Image.stageable_iff _).1 (hi.2 l hl)
      refine (Image.stageable_iff _).2 ⟨fun y => ?_, thresholds⟩
      by_cases e : y = x
      · subst e
        rw [Pair.get_set_same]
        exact UserRecord.inRange_withGroup _ g values (users y) good
      · obtain rfl : y = x.other := by cases x <;> cases y <;> simp_all [Head.other]
        rw [Pair.get_set_other]
        exact users _

theorem stageSource (h : s.Calm t) (p : Port) (mode : Byte) (holdOff : BitVec 16) :
    s.Calm (stageSource p mode holdOff t).state := by
  refine h.asHolder p _ fun l hl => ?_
  split
  · exact h
  · exact h.setLease hl _ rfl fun hi => hi.2 l hl

theorem stageThresholds (h : s.Calm t) (p : Port) (gyro accel : BitVec 32) :
    s.Calm (stageThresholds p gyro accel t).state := by
  refine h.asHolder p _ fun l hl => ?_
  split
  · exact h
  · next hg =>
    split
    · exact h
    · next ha =>
      refine h.setLease hl _ rfl fun hi => ?_
      obtain ⟨users, -⟩ := (Image.stageable_iff _).1 (hi.2 l hl)
      exact (Image.stageable_iff _).2 ⟨users, not_lt.1 hg, not_lt.1 ha⟩

theorem stageTiming (h : s.Calm t) (p : Port) (rate : BitVec 16) (mode : Byte) (scale : BitVec 16) :
    s.Calm (stageTiming p rate mode scale t).state := by
  refine h.asHolder p _ fun l hl => ?_
  split
  · exact h
  · exact h
  · exact h.setLease hl _ rfl fun hi => hi.2 l hl

theorem stageRead (h : s.Calm t) (p : Port) : s.Calm (stageRead p t).state := h.asHolder p _ fun _ _ => h

theorem stageDiscard (h : s.Calm t) (p : Port) : s.Calm (stageDiscard p t).state :=
  h.asHolder p _ fun _ hl => h.setLease hl _ rfl fun hi => hi.stageable

/-- The staged image of the holder becomes active only past the validation of R136. -/
theorem activate (h : s.Calm t) (p : Port) : s.Calm (activate p t).state := by
  refine h.asHolder p _ fun l hl => ?_
  split
  · exact h
  · next valid =>
    have hcfg : s.Calm { t with cfg := { t.cfg with active := l.staged, epoch := t.cfg.epoch + 1 } } :=
      h.trans <| of_cfg rfl rfl rfl id fun hi =>
        ⟨(Image.inRange_iff _).2 ⟨hi.2 l hl, valid⟩, hi.2⟩
    exact (hcfg.frame : s.Calm _).raise _

theorem startUpLoad (h : s.Calm t) : s.Calm (startUpLoad t) := by
  unfold Machine.startUpLoad
  split
  · have hcfg : s.Calm
        { t with
          cfg := { t.cfg with active := t.medium.choose.image, epoch := 0#16 }, store := t.store.loadedFrom t.medium } :=
      h.trans <| of_cfg rfl rfl rfl id fun hi => ⟨t.medium.choose_inRange, hi.2⟩
    exact ((((hcfg.raiseIf ..).raiseIf ..).raiseIf ..).raiseIf ..).startStrobing _
  · exact h

end State.Calm

/-! ## What one command makes of a context -/

/-- A context that stands at the same place and counts the same publications as another of the same opening. -/
structure Context.SameSpan (x y : Context) : Prop where
  owner : y.owner = x.owner
  start : y.start = x.start
  period : y.period = x.period
  position : y.position = x.position
  counted : y.counted = x.counted
  queue : x.queue.length ≤ Config.takeDepth → y.queue.length ≤ Config.takeDepth

theorem Context.SameSpan.refl (x : Context) : x.SameSpan x := ⟨rfl, rfl, rfl, rfl, rfl, id⟩

theorem Context.SameSpan.trans {x y z : Context} (h : x.SameSpan y) (g : y.SameSpan z) : x.SameSpan z :=
  ⟨g.owner.trans h.owner, g.start.trans h.start, g.period.trans h.period, g.position.trans h.position,
    g.counted.trans h.counted, g.queue ∘ h.queue⟩

/-- A record counts the accumulation it is made of, also one that carries nothing but the skipped count (R7, R21). -/
theorem Context.recordOf_counted (c : Context) (n : CtxNum) (kind : RecordKind) :
    (c.recordOf n kind).counted = c.acc.count.toNat + c.acc.skipped.toNat := by
  by_cases h : c.acc.count = 0#32 <;> simp [Context.recordOf, DeltaRecord.counted, h, Accumulation.empty]

theorem Context.autoTake_sameSpan (c : Context) (n : CtxNum) (room : c.queue.length < Config.takeDepth) :
    c.SameSpan (c.autoTake n) where
  owner := rfl
  start := rfl
  period := rfl
  position := rfl
  counted := by
    simp [Context.counted, Context.autoTake, Context.afterRecord, Context.recordOf_counted, Accumulation.empty,
      Nat.add_assoc]
  queue _ := by simpa [Context.autoTake] using room

theorem Context.autoTake_belowLimit (c : Context) (n : CtxNum) : (c.autoTake n).belowLimit = true := by
  simp [Context.autoTake, Context.afterRecord, Context.belowLimit, Accumulation.empty, Config.countLimit]

/-- A boundary takes a record, defers it, or does not fall here (R8, R9). -/
theorem Context.boundary_sameSpan (c : Context) (n : CtxNum) (passed : PubNum) : c.SameSpan (c.boundary n passed) := by
  unfold Context.boundary
  split
  · split
    · next room => exact c.autoTake_sameSpan n room
    · exact ⟨rfl, rfl, rfl, rfl, rfl, id⟩
  · exact .refl c

/-- A context that the count limit leaves open is below it (R10). -/
theorem Context.limit_keeps {c y : Context} {n : CtxNum} (h : c.limit n = .keeps y) :
    c.SameSpan y ∧ y.belowLimit = true := by
  unfold Context.limit at h
  split at h
  · next below =>
    cases h
    exact ⟨.refl c, by simpa [Context.belowLimit] using below⟩
  · split at h
    · next room =>
      cases h
      exact ⟨c.autoTake_sameSpan n room, c.autoTake_belowLimit n⟩
    · cases h

/-- A context passes one publication: its position and its counts advance by one, and the tests that follow lose none. -/
structure Context.Advances (x y : Context) : Prop where
  owner : y.owner = x.owner
  start : y.start = x.start
  period : y.period = x.period
  queue : x.queue.length ≤ Config.takeDepth → y.queue.length ≤ Config.takeDepth
  position : y.position = x.position + 1
  counted : x.belowLimit = true → y.counted = x.counted + 1
  below : y.belowLimit = true

/-- The boundary and limit tests after one more publication has been counted. -/
theorem Context.Advances.of_tests {x c y : Context} {n : CtxNum} {passed : PubNum} (owner : c.owner = x.owner)
    (start : c.start = x.start) (period : c.period = x.period) (queue : c.queue = x.queue)
    (position : c.position = x.position + 1) (counted : x.belowLimit = true → c.counted = x.counted + 1)
    (h : (c.boundary n passed).limit n = .keeps y) : x.Advances y := by
  obtain ⟨same, below⟩ := Context.limit_keeps h
  have all := (c.boundary_sameSpan n passed).trans same
  exact ⟨all.owner.trans owner, all.start.trans start, all.period.trans period, fun hx => all.queue (queue ▸ hx),
    all.position.trans position, fun hb => all.counted.trans (counted hb), below⟩

/-- Below the limit one more publication fits into either count. -/
theorem Context.toNat_succ_of_belowLimit {c : Context} (h : c.belowLimit = true) :
    (c.acc.count + 1).toNat = c.acc.count.toNat + 1 ∧ (c.acc.skipped + 1).toNat = c.acc.skipped.toNat + 1 := by
  have hlt : c.acc.count.toNat + c.acc.skipped.toNat < 4294967295 := of_decide_eq_true h
  constructor <;> bv_omega

theorem Context.take_advances {x y : Context} {n : CtxNum} {p : Publication} (h : x.take n p = .keeps y) :
    x.Advances y := by
  refine .of_tests (c := x.integrate p) rfl rfl rfl rfl rfl (fun hb => ?_) h
  have fits := (Context.toNat_succ_of_belowLimit hb).1
  simp only [Context.counted, Context.integrate, Accumulation.add, fits]
  omega

theorem Context.skip_advances {x y : Context} {n : CtxNum} (h : x.skip n = .keeps y) : x.Advances y := by
  refine .of_tests
    (c :=
      { x with
        position := x.position + 1,
        acc := { x.acc with skipped := x.acc.skipped + 1, flags := { x.acc.flags with historyGap := true } } })
    rfl rfl rfl rfl rfl (fun hb => ?_) h
  have fits := (Context.toNat_succ_of_belowLimit hb).2
  simp only [Context.counted, fits]
  omega

/-- What a context may be after one command: of the same opening, its queue within its depth, and below the count limit
with every publication counted once, or with one record fewer (R1, R10, R21). -/
structure Context.Follows (n : CtxNum) (x y : Context) : Prop where
  owner : y.owner = x.owner
  start : y.start = x.start
  period : y.period = x.period
  queue : x.queue.length ≤ Config.takeDepth → y.queue.length ≤ Config.takeDepth
  below : x.belowLimit = true → y.belowLimit = true
  counted : x.belowLimit = true →
    (y.position = x.position ∧ y.counted = x.counted) ∨ (y.position = x.position + 1 ∧ y.counted = x.counted + 1)
      ∨ ∃ record : DeltaRecord, (record = x.recordOf n .manual ∨ x.queue.head? = some record)
          ∧ y.position = x.position ∧ y.counted + record.counted = x.counted

theorem Context.Follows.refl (n : CtxNum) (x : Context) : x.Follows n x :=
  ⟨rfl, rfl, rfl, id, id, fun _ => .inl ⟨rfl, rfl⟩⟩

theorem Context.Advances.follows {x y : Context} (h : x.Advances y) (n : CtxNum) : x.Follows n y :=
  ⟨h.owner, h.start, h.period, h.queue, fun _ => h.below, fun hb => .inr (.inl ⟨h.position, h.counted hb⟩)⟩

/-- DELTA_TAKE takes the pending accumulation out in its record (R16). -/
theorem Context.afterRecord_follows (x : Context) (n : CtxNum) : x.Follows n x.afterRecord where
  owner := rfl
  start := rfl
  period := rfl
  queue := id
  below _ := by simp [Context.afterRecord, Context.belowLimit, Accumulation.empty, Config.countLimit]
  counted _ := .inr <| .inr ⟨x.recordOf n .manual, .inl rfl, rfl, by
    simp [Context.counted, Context.afterRecord, Context.recordOf_counted, Accumulation.empty, Nat.add_assoc]⟩

/-- DELTA_COLLECT takes the oldest queued record out (R17). -/
theorem Context.collect_follows {x : Context} {d : DeltaRecord} {rest : List DeltaRecord} (n : CtxNum)
    (h : x.queue = d :: rest) : x.Follows n { x with queue := rest } where
  owner := rfl
  start := rfl
  period := rfl
  queue hx := by rw [h, List.length_cons] at hx; exact Nat.le_of_succ_le hx
  below := id
  counted _ := .inr <| .inr ⟨d, .inr (by rw [h]; rfl), rfl, by
    simp only [Context.counted, h, List.map_cons, List.sum_cons]
    omega⟩

/-- A walk that reaches next only changes its state (R12). -/
theorem Context.Follows.opened {x y : Context} {n : CtxNum} (h : x.Follows n y) :
    x.Follows n { y with state := .opened } :=
  ⟨h.owner, h.start, h.period, h.queue, h.below, h.counted⟩

/-- What an entry of the table may be after one command: FREE, a context just opened in a FREE entry, or one that follows the
context that stood there. -/
def EntryKept (n : CtxNum) (before after : Option Context) : Prop :=
  ∀ y, after = some y →
    (before = none ∧ y.queue = [] ∧ y.acc = Accumulation.empty) ∨ ∃ x, before = some x ∧ x.Follows n y

theorem EntryKept.refl (n : CtxNum) (e : Option Context) : EntryKept n e e := fun y hy => .inr ⟨y, hy, .refl n y⟩

theorem EntryKept.free (n : CtxNum) (e : Option Context) : EntryKept n e none := fun _ hy => nomatch hy

/-! ## One entry at an arrival (R4, R13) -/

/-- An entry in an event that reaches some contexts: the reached ones become what `entry` makes of them. -/
def entryAfter (reached : Context → Bool) (entry : CtxNum → Context → Entry) (n : CtxNum) (e : Option Context) :
    Option Context :=
  match e with
  | none => none
  | some x =>
    if reached x then
      match entry n x with
      | .keeps y => some y
      | .closes _ _ _ _ => none
    else some x

/-- The COMPLETION such an event sends for an entry: FAILED with the CLOSING record when it closes (R10). -/
def entryReport (reached : Context → Bool) (entry : CtxNum → Context → Entry) (n : CtxNum) (e : Option Context) :
    Option Completion :=
  match e with
  | none => none
  | some x =>
    if reached x then
      match entry n x with
      | .keeps _ => none
      | .closes owner tag record discarded =>
        some ⟨owner, Reply.completion .deltaOpen tag .failed (.deltaClosed discarded record)⟩
    else none

/-- The event at one entry. -/
def State.entryAt (reached : Context → Bool) (entry : CtxNum → Context → Entry) (n : CtxNum) (s : State) : State :=
  match s.delta.contexts[n] with
  | none => s
  | some x => if reached x then s.putEntry n (entry n x) else s

theorem State.liveAt_eq (p : Publication) (n : CtxNum) (s : State) :
    s.liveAt p n =
      s.entryAt (fun x => decide (x.state = .opened ∧ x.position = p.number)) (fun n x => x.take n p) n := by
  unfold State.liveAt State.entryAt
  cases s.delta.contexts[n] <;> simp

theorem State.dropAt_eq (d : PubNum) (n : CtxNum) (s : State) :
    s.dropAt d n =
      s.entryAt (fun x => decide (x.state = .backfilling ∧ x.position = d)) (fun n x => x.skip n) n := by
  unfold State.dropAt State.entryAt
  cases s.delta.contexts[n] <;> simp

section Arrivals

variable (reached : Context → Bool) (entry : CtxNum → Context → Entry)

/-- The event at one entry writes that entry and sends its report, and nothing else. -/
theorem State.entryAt_eq (n : CtxNum) (s : State) :
    s.entryAt reached entry n =
      { s with
        delta := { s.delta with contexts := s.delta.contexts.set n (entryAfter reached entry n s.delta.contexts[n]) },
        arrivals :=
          { s.arrivals with
            completions := s.arrivals.completions ++ (entryReport reached entry n s.delta.contexts[n]).toList } } := by
  have same : s.delta.contexts.set n s.delta.contexts[n] = s.delta.contexts := Vector.set_getElem_self n.isLt
  have unchanged :
      { s with
        delta := { s.delta with contexts := s.delta.contexts.set n s.delta.contexts[n] },
        arrivals := { s.arrivals with completions := s.arrivals.completions ++ [] } } = s := by
    rw [same, List.append_nil]
  unfold State.entryAt entryAfter entryReport
  cases he : s.delta.contexts[n] with
  | none => rw [he] at unchanged; exact unchanged.symm
  | some x =>
    rw [he] at unchanged
    cases hr : reached x with
    | false => simpa [hr] using unchanged.symm
    | true =>
      cases hx : entry n x with
      | keeps y => simp [hr, hx, State.putEntry, State.setContext]
      | closes owner tag record d => simp [hr, hx, State.putEntry, State.setContext, State.complete]

/-- The event at several entries: each is written by itself, and the reports go out in the order of the entries. -/
theorem State.foldl_entryAt (ns : List CtxNum) (nodup : ns.Nodup) (s : State) :
    ∃ contexts,
      ns.foldl (fun t n => t.entryAt reached entry n) s =
          { s with
            delta := { s.delta with contexts := contexts },
            arrivals :=
              { s.arrivals with
                completions :=
                  s.arrivals.completions
                    ++ ns.filterMap fun n => entryReport reached entry n s.delta.contexts[n] } }
        ∧ ∀ m : CtxNum,
            contexts[m] =
              if m ∈ ns then entryAfter reached entry m s.delta.contexts[m] else s.delta.contexts[m] := by
  induction ns generalizing s with
  | nil => exact ⟨s.delta.contexts, by simp, by simp⟩
  | cons n ns ih =>
    obtain ⟨fresh, nodup⟩ := List.nodup_cons.1 nodup
    obtain ⟨contexts, run, each⟩ := ih nodup (s.entryAt reached entry n)
    have read (m : CtxNum) : (s.entryAt reached entry n).delta.contexts[m] =
        if m = n then entryAfter reached entry n s.delta.contexts[n] else s.delta.contexts[m] := by
      rw [State.entryAt_eq]
      exact getElem_set_fin ..
    have reports :
        (ns.filterMap fun m => entryReport reached entry m (s.entryAt reached entry n).delta.contexts[m]) =
          ns.filterMap fun m => entryReport reached entry m s.delta.contexts[m] :=
      List.filterMap_congr fun m hm => by rw [read, if_neg fun e : m = n => fresh (e ▸ hm)]
    refine ⟨contexts, ?_, fun m => ?_⟩
    · rw [List.foldl_cons, run, reports, State.entryAt_eq]
      simp only [List.filterMap_cons]
      cases entryReport reached entry n s.delta.contexts[n] <;> simp
    · rw [each m, read m]
      by_cases e : m = n
      · subst e
        simp [fresh]
      · simp [e]

end Arrivals

/-! ## What one command makes of the hub -/

/-- A port owns no more entries after a change that gives it none (R1). -/
theorem DeltaEngine.owned_le {d e : DeltaEngine} {p : Port}
    (h : ∀ n : CtxNum, ownedBy p e.contexts[n] = true → ownedBy p d.contexts[n] = true) : e.owned p ≤ d.owned p := by
  have listed (v : Vector (Option Context) 8) : v.toList = (List.finRange 8).map fun n => v[n] := by
    rw [← List.ofFn_eq_map]
    exact List.ext_getElem (by simp) fun i _ _ => by simp only [Vector.getElem_toList, List.getElem_ofFn]; rfl
  simp only [DeltaEngine.owned, listed, List.countP_map]
  exact List.countP_mono_left fun n _ hn => h n hn

theorem mem_ctxNumbers (n : CtxNum) : n ∈ ctxNumbers := by
  revert n
  decide

theorem DeltaEngine.reset_owned (p : Port) : DeltaEngine.reset.owned p = 0 := by
  revert p
  decide

/-- A request command is carried out in the one way, also when it comes as bytes (R172). -/
theorem exec_request {i : Instr} (h : (requestOf i).isSome = true) (s : State) : exec i s = carryOut i s := by
  cases i <;> cases h <;> rfl

/-- What every command keeps of DELTA, the ports, the condition sets and CFG: each entry of the table is as `EntryKept` has
it, no port comes to own more than four, and the rest keeps its form. -/
structure State.Kept (s t : State) : Prop where
  entries : ∀ n : CtxNum, EntryKept n s.delta.contexts[n] t.delta.contexts[n]
  owned : (∀ p, s.delta.owned p ≤ Config.contextsPerPort) → ∀ p, t.delta.owned p ≤ Config.contextsPerPort
  replies : s.RepliesBounded → t.RepliesBounded
  sets : s.SetsOrdered → t.SetsOrdered
  lease : s.cfg.LeaseConsistent → t.cfg.LeaseConsistent
  images : s.cfg.ImagesInRange → t.cfg.ImagesInRange

theorem State.Calm.owned {s t : State} (h : s.Calm t) (p : Port) : t.delta.owned p = s.delta.owned p := by
  simp only [DeltaEngine.owned, h.contexts]

theorem State.Calm.kept {s t : State} (h : s.Calm t) : s.Kept t where
  entries n := by rw [h.contexts]; exact .refl n _
  owned := by simp only [h.owned]; exact id
  replies := h.replies
  sets := h.sets
  lease := h.lease
  images := h.images

namespace State.Kept

variable {s t u : State}

theorem of_calm (h : s.Calm t) (g : t.Kept u) : s.Kept u where
  entries n := h.contexts ▸ g.entries n
  owned := by have := g.owned; simpa only [h.owned] using this
  replies := g.replies ∘ h.replies
  sets := g.sets ∘ h.sets
  lease := g.lease ∘ h.lease
  images := g.images ∘ h.images

theorem calm (g : s.Kept t) (h : t.Calm u) : s.Kept u where
  entries n := h.contexts ▸ g.entries n
  owned := by have := g.owned; simpa only [h.owned] using this
  replies := h.replies ∘ g.replies
  sets := h.sets ∘ g.sets
  lease := h.lease ∘ g.lease
  images := h.images ∘ g.images

/-- A change of the context table alone. -/
theorem of_table (hp : t.ports = s.ports) (hg : t.cfg = s.cfg) (hc : t.cond = s.cond)
    (entries : ∀ n : CtxNum, EntryKept n s.delta.contexts[n] t.delta.contexts[n])
    (owned : (∀ p, s.delta.owned p ≤ Config.contextsPerPort) → ∀ p, t.delta.owned p ≤ Config.contextsPerPort) :
    s.Kept t where
  entries := entries
  owned := owned
  replies := by simp only [RepliesBounded, hp]; exact id
  sets := by simp only [SetsOrdered, hc]; exact id
  lease := by rw [hg]; exact id
  images := by rw [hg]; exact id

/-- A change of the context table in which every context follows one that stood there. -/
theorem of_followers (hp : t.ports = s.ports) (hg : t.cfg = s.cfg) (hc : t.cond = s.cond)
    (h : ∀ (n : CtxNum) (y : Context), t.delta.contexts[n] = some y → ∃ x, s.delta.contexts[n] = some x ∧ x.Follows n y) :
    s.Kept t := by
  refine of_table hp hg hc (fun n y hy => .inr (h n y hy)) fun ho p => (DeltaEngine.owned_le fun n hn => ?_).trans (ho p)
  cases hy : t.delta.contexts[n] with
  | none => rw [hy] at hn; cases hn
  | some y =>
    obtain ⟨x, hx, follows⟩ := h n y hy
    rw [hy] at hn
    simpa only [hx, ownedBy, follows.owner] using hn

/-- One entry rewritten with a context that follows the one that stood there. -/
theorem setContext_some {n : CtxNum} {x y : Context} (hx : s.delta.contexts[n] = some x) (h : x.Follows n y) :
    s.Kept (s.setContext n (some y)) := by
  refine of_followers rfl rfl rfl fun m z hz => ?_
  rw [State.setContext_entry] at hz
  split at hz
  · next e => subst e; cases hz; exact ⟨x, hx, h⟩
  · exact ⟨z, hz, .refl m z⟩

/-- One entry freed. -/
theorem setContext_none (s : State) (n : CtxNum) : s.Kept (s.setContext n none) := by
  refine of_followers rfl rfl rfl fun m z hz => ?_
  rw [State.setContext_entry] at hz
  split at hz
  · cases hz
  · exact ⟨z, hz, .refl m z⟩

/-- A FREE entry opened for a port that owns fewer than four (R1, R15). -/
theorem setContext_open {n : CtxNum} {y : Context} (free : s.delta.contexts[n] = none)
    (few : s.delta.owned y.owner < Config.contextsPerPort) (hq : y.queue = []) (ha : y.acc = Accumulation.empty) :
    s.Kept (s.setContext n (some y)) := by
  refine of_table rfl rfl rfl (fun m z hz => ?_) fun ho p => ?_
  · rw [State.setContext_entry] at hz
    split at hz
    · next e => subst e; cases hz; exact .inl ⟨free, hq, ha⟩
    · exact .inr ⟨z, hz, .refl m z⟩
  · have count := s.owned_setContext n (some y) p
    rw [free] at count
    simp only [ownedBy, Bool.false_eq_true, if_false, Nat.add_zero, decide_eq_true_eq] at count
    rw [count]
    split
    · next e => exact e ▸ few
    · exact ho p

theorem putEntry {n : CtxNum} {x : Context} {e : Entry} (hx : s.delta.contexts[n] = some x)
    (h : ∀ y, e = .keeps y → x.Follows n y) : s.Kept (s.putEntry n e) := by
  cases e with
  | keeps y => exact setContext_some hx (h y rfl)
  | closes owner tag record d => exact (setContext_none s n).calm ((Calm.refl _).complete ..)

theorem freeContexts (s : State) (p : Port) : s.Kept (s.freeContexts p) := by
  refine of_followers rfl rfl rfl fun n y hy => ⟨y, ?_, .refl n y⟩
  simp only [State.freeContexts, Fin.getElem_fin, Vector.getElem_map] at hy
  split at hy
  · cases hy
  · exact hy

/-! ### Events of DELTA -/

/-- An event at every entry, of which the reached contexts advance. -/
theorem foldl_entryAt (s : State) (reached : Context → Bool) (entry : CtxNum → Context → Entry)
    (h : ∀ (n : CtxNum) (x y : Context), entry n x = .keeps y → x.Advances y) :
    s.Kept (ctxNumbers.foldl (fun t n => t.entryAt reached entry n) s) := by
  obtain ⟨contexts, run, each⟩ := State.foldl_entryAt reached entry ctxNumbers (by decide) s
  rw [run]
  refine of_followers rfl rfl rfl fun n y hy => ?_
  replace hy : contexts[n] = some y := hy
  rw [each n, if_pos (mem_ctxNumbers n)] at hy
  cases hx : s.delta.contexts[n] with
  | none => rw [hx] at hy; cases hy
  | some x =>
    refine ⟨x, rfl, ?_⟩
    simp only [hx, entryAfter] at hy
    split at hy
    · split at hy
      · next z hz => cases hy; exact (h n x _ hz).follows n
      · cases hy
    · cases hy; exact .refl n _

theorem deltaArrival (s : State) : s.Kept (deltaArrival s) := by
  unfold Machine.deltaArrival
  split
  · exact (Calm.refl s).kept
  · simp only [State.liveAt_eq]
    exact of_calm (Calm.refl s).frame (foldl_entryAt _ _ _ fun _ _ _ => Context.take_advances)

theorem dropArrival (s : State) : s.Kept (dropArrival s) := by
  unfold Machine.dropArrival
  split
  · exact (Calm.refl s).kept
  · simp only [State.dropAt_eq]
    exact of_calm (Calm.refl s).frame (foldl_entryAt _ _ _ fun _ _ _ => Context.skip_advances)

theorem finishWalk {n : CtxNum} {x : Context} {e : Entry} (hx : s.delta.contexts[n] = some x)
    (h : ∀ y, e = .keeps y → x.Advances y) : s.Kept (s.finishWalk n e) := by
  unfold State.finishWalk
  split
  · exact putEntry hx fun y hy => (h y hy).follows n
  · split
    · exact (setContext_some hx ((h _ rfl).follows n).opened).calm ((Calm.refl _).complete ..)
    · exact putEntry hx fun y hy => (h y hy).follows n

theorem walkStep (n : CtxNum) (s : State) : s.Kept (walkStep n s) := by
  unfold Machine.walkStep
  split
  · exact (Calm.refl s).kept
  · next x hx =>
    split
    · split
      · exact finishWalk hx fun _ => Context.take_advances
      · exact finishWalk hx fun _ => Context.skip_advances
    · exact (Calm.refl s).kept

/-! ### Requests of DELTA and PORT_RESET -/

theorem deltaOpen (s : State) (p : Port) (tag : Byte) (label period : BitVec 16) (form : Byte) (number : PubNum) :
    s.Kept (deltaOpen p tag label period form number s).state := by
  unfold Machine.deltaOpen
  split
  · exact (Calm.refl s).kept
  split
  · exact (Calm.refl s).kept
  next n hn =>
  have free : s.delta.contexts[n] = none := by simpa using List.find?_some hn
  split
  · exact (Calm.refl s).kept
  next few =>
  split
  · exact setContext_open free (not_le.1 few) rfl rfl
  · split
    · exact setContext_open free (not_le.1 few) rfl rfl
    · exact (Calm.refl s).kept

/-- The context that R14 lets a request act on stands in the table. -/
theorem ownContext_entry {p : Port} {b : Byte} {n : CtxNum} {x : Context} (h : s.ownContext p b = .ok (n, x)) :
    s.delta.contexts[n] = some x := by
  unfold State.ownContext at h
  split at h
  · cases h
  split at h
  · cases h
  next hx =>
  split at h
  · cases h; exact hx
  · cases h

theorem deltaTake (s : State) (p : Port) (ctx : Byte) : s.Kept (deltaTake p ctx s).state := by
  unfold Machine.deltaTake
  split
  · exact (Calm.refl s).kept
  next n x own =>
  split
  · exact (Calm.refl s).kept
  · exact setContext_some (ownContext_entry own) (x.afterRecord_follows n)

theorem deltaCollect (s : State) (p : Port) (ctx : Byte) : s.Kept (deltaCollect p ctx s).state := by
  unfold Machine.deltaCollect
  split
  · exact (Calm.refl s).kept
  next n x own =>
  split
  · exact (Calm.refl s).kept
  next queued => exact setContext_some (ownContext_entry own) (Context.collect_follows n queued)

theorem deltaClose (s : State) (p : Port) (ctx discard : Byte) : s.Kept (deltaClose p ctx discard s).state := by
  unfold Machine.deltaClose
  split
  · exact (Calm.refl s).kept
  split
  · exact (Calm.refl s).kept
  · exact setContext_none ..

theorem deltaStatus (s : State) (p : Port) (ctx : Byte) : s.Kept (deltaStatus p ctx s).state := by
  unfold Machine.deltaStatus
  split <;> exact (Calm.refl s).kept

theorem portReset (s : State) (p : Port) : s.Kept (portReset p s).state := by
  have cleared : s.Calm
      (((s.modifyPort p fun q => { q with queue := [], mask := AttnSet.default }).clearConditions p).resetReader p) :=
    (((Calm.refl s).modifyPort p (fun q => { q with queue := [], mask := AttnSet.default })
      (Nat.zero_le _)).clearConditions p).modifyReader p _
  have freed := of_calm cleared (freeContexts _ p)
  exact freed.calm (((Calm.refl _).resetLease p).frame)

/-! ### Resets -/

/-- Every block at its part-reset values, whatever the ports kept of their pins (R184). -/
theorem resetBlocks (s : State) (power : Power) : s.Kept (s.resetBlocks power) where
  entries n := by
    have : (s.resetBlocks power).delta.contexts[n] = none := by
      simp [State.resetBlocks, State.reset, DeltaEngine.reset]
    rw [this]
    exact .free n _
  owned _ p := (DeltaEngine.reset_owned p).trans_le (Nat.zero_le _)
  replies _ p := by simp [State.resetBlocks, PortState.reset]
  sets _ p := by simp [State.resetBlocks, State.reset, Conditions.reset]
  lease _ := ⟨List.nodup_nil, rfl⟩
  images _ := ⟨Image.default_inRange, fun _ h => nomatch h⟩

/-! ### Commands -/

theorem of_whileRunning {f : State → State} (hf : s.Kept (f s)) (h : whileRunning f s = .next t) : s.Kept t := by
  unfold whileRunning at h
  split at h
  · cases h; exact hf
  · cases h; exact (Calm.refl s).kept

/-- A request keeps what its own part keeps: the rest is the end of its transaction and its reply (R171 to R174). -/
theorem of_requestEnd {r : Req} {k : RequestKind} {carry : State → Answer} (hc : ∀ u : State, u.Kept (carry u).state)
    (h : requestEnd r k carry s = .next t) : s.Kept t := by
  cases h
  have ended := (Calm.refl s).served r k
  cases ht : s.ports[r.port].txn with
  | none =>
    rw [s.endTransaction_none r.port _ _ ht]
    exact ((Calm.refl s).modifyPort r.port (fun q => { q with csLow := false }) le_rfl).kept
  | some tx =>
    rw [s.endTransaction_some r.port _ _ tx ht, takeRequest]
    split
    · exact (ended.frameError ..).kept
    split
    · exact (ended.appendReply ..).kept
    · exact (of_calm ended (hc _)).calm ((Calm.refl _).appendReply ..)

/-- A request that is calm in its own part. -/
theorem of_requestEnd_calm {r : Req} {k : RequestKind} {carry : State → Answer} (hc : ∀ u : State, u.Calm (carry u).state)
    (h : requestEnd r k carry s = .next t) : s.Kept t := of_requestEnd (fun u => (hc u).kept) h

theorem of_carryOut {i : Instr} (h : carryOut i s = .next t) : s.Kept t := by
  cases i with
  | identify => exact of_requestEnd_calm (fun u => .refl u) h
  | portReset => exact of_requestEnd (fun u => portReset u _) h
  | setAttention => exact of_requestEnd_calm (fun u => (Calm.refl u).setAttention ..) h
  | condRead => exact of_requestEnd_calm (fun u => (Calm.refl u).clearConditions _) h
  | healthRead => exact of_requestEnd_calm (fun u => .refl u) h
  | timeRead => exact of_requestEnd_calm (fun u => .refl u) h
  | histRead => exact of_requestEnd_calm (fun u => (Calm.refl u).histRead ..) h
  | histPeek => exact of_requestEnd_calm (fun u => (Calm.refl u).histPeek _) h
  | histSeek => exact of_requestEnd_calm (fun u => (Calm.refl u).histSeek ..) h
  | histWatermark => exact of_requestEnd_calm (fun u => (Calm.refl u).histWatermark ..) h
  | deltaOpen => exact of_requestEnd (fun u => deltaOpen u ..) h
  | deltaTake => exact of_requestEnd (fun u => deltaTake u ..) h
  | deltaCollect => exact of_requestEnd (fun u => deltaCollect u ..) h
  | deltaClose => exact of_requestEnd (fun u => deltaClose u ..) h
  | deltaStatus => exact of_requestEnd (fun u => deltaStatus u ..) h
  | calRead => exact of_requestEnd_calm (fun u => (Calm.refl u).calRead ..) h
  | headIdent => exact of_requestEnd_calm (fun u => (Calm.refl u).headIdent ..) h
  | headTest => exact of_requestEnd_calm (fun u => (Calm.refl u).headTest ..) h
  | leaseAcquire => exact of_requestEnd_calm (fun u => (Calm.refl u).leaseAcquire ..) h
  | leaseRelease => exact of_requestEnd_calm (fun u => (Calm.refl u).leaseRelease _) h
  | stageCal => exact of_requestEnd_calm (fun u => (Calm.refl u).stageCal ..) h
  | stageSource => exact of_requestEnd_calm (fun u => (Calm.refl u).stageSource ..) h
  | stageThresholds => exact of_requestEnd_calm (fun u => (Calm.refl u).stageThresholds ..) h
  | stageTiming => exact of_requestEnd_calm (fun u => (Calm.refl u).stageTiming ..) h
  | stageRead => exact of_requestEnd_calm (fun u => (Calm.refl u).stageRead _) h
  | stageDiscard => exact of_requestEnd_calm (fun u => (Calm.refl u).stageDiscard _) h
  | activate => exact of_requestEnd_calm (fun u => (Calm.refl u).activate _) h
  | storeCommit => exact of_requestEnd_calm (fun u => (Calm.refl u).storeCommit ..) h
  | storeStatus => exact of_requestEnd_calm (fun u => .refl u) h
  | _ => cases h; exact (Calm.refl s).kept

theorem of_malformedRequest {p : Port} {bytes : List Byte} (h : execMalformedRequest p bytes s = .next t) : s.Kept t := by
  have ends (found : Received) :
      s.Kept (s.endTransaction p bytes.length (takeMalformed p bytes found)) :=
    ((Calm.refl s).endTransaction _ _ _ fun _ _ hu => hu.takeMalformed ..).kept
  unfold execMalformedRequest at h
  split at h
  · cases h; exact ((Calm.refl s).endTransaction _ _ _ fun _ _ hu => hu).kept
  · exact of_carryOut h
  · cases h; exact ends _
  · cases h; exact ends _
  · cases h; exact ends _

/-- Every command keeps the form of the queues, the condition sets, the lease and the images, and every context. -/
theorem of_exec {c : Instr} (h : exec c s = .next t) : s.Kept t := by
  by_cases request : (requestOf c).isSome = true
  · exact of_carryOut (exec_request request s ▸ h)
  have calm := Calm.refl s
  cases c with
  | partReset cause =>
    replace h : execPartReset cause s = .next t := h
    unfold execPartReset at h
    split at h
    · cases h; exact resetBlocks s _
    · cases h; exact calm.kept
  | resetRelease =>
    replace h : execResetRelease s = .next t := h
    unfold execResetRelease at h
    split at h
    · cases h; exact resetBlocks s _
    · cases h; exact calm.kept
  | powerLoss => cases h; exact resetBlocks s _
  | startUpLoad => exact of_whileRunning calm.startUpLoad.kept h
  | chipSelectFall => cases h; exact (calm.chipSelectFall ..).kept
  | nop => cases h; exact (calm.endTransaction _ _ _ fun _ _ hu => hu).kept
  | malformedRequest => exact of_malformedRequest h
  | erasingEnd => exact of_whileRunning calm.erasingEnd.kept h
  | writingEnd => exact of_whileRunning (calm.writingEnd _).kept h
  | verifyingEnd => exact of_whileRunning calm.verifyingEnd.kept h
  | completionArrival => exact of_whileRunning (calm.completionArrival _).kept h
  | leaseExpiry => exact of_whileRunning calm.leaseExpiry.kept h
  | freeStrobe => exact of_whileRunning calm.freeStrobe.kept h
  | syncEdge => exact of_whileRunning calm.syncEdge.kept h
  | fallbackCheck => exact of_whileRunning calm.fallbackCheck.kept h
  | syncPulse => exact of_whileRunning calm.syncPulse.kept h
  | scheduledStrobe => exact of_whileRunning calm.scheduledStrobe.kept h
  | virtualOrigin => exact of_whileRunning calm.virtualOrigin.kept h
  | holdoverDeadline => exact of_whileRunning calm.holdoverDeadline.kept h
  | holdoverEnd => exact of_whileRunning calm.holdoverEnd.kept h
  | timingChange => exact of_whileRunning calm.timingArrival.kept h
  | strobeAtSel => exact of_whileRunning calm.strobeArrival.kept h
  | strobeAtLink => exact of_whileRunning (calm.strobeAtLink _).kept h
  | sample => exact of_whileRunning (calm.sampleArrival ..).kept h
  | response => exact of_whileRunning (calm.responseArrival ..).kept h
  | crcError => exact of_whileRunning (calm.brokenArrival ..).kept h
  | commandTimeout => exact of_whileRunning (calm.commandTimeout _).kept h
  | miss => exact of_whileRunning (calm.missArrival _).kept h
  | append => exact of_whileRunning calm.appendArrival.kept h
  | publicationAtDelta => exact of_whileRunning (deltaArrival s) h
  | walkStep n => exact of_whileRunning (walkStep n s) h
  | dropAtDelta => exact of_whileRunning (dropArrival s) h
  | levelReEvaluation => exact of_whileRunning calm.levelArrival.kept h
  | _ => exact absurd rfl request

end State.Kept

/-- An idle step takes one of the hub's own events, or counts a microsecond (log 1, log 2). -/
theorem State.Kept.of_step {s t : State} (h : step s = .next t) : s.Kept t := by
  unfold step at h
  split at h
  · exact of_calm (Calm.refl s).frame (of_exec h)
  · unfold idleStep at h
    split at h
    · exact of_exec h
    · cases h
      unfold State.tick
      split
      · exact (Calm.refl s).frame.kept
      · exact (Calm.refl s).kept

/-- The take queues and the owned entries keep within their limits (R1). -/
theorem State.Kept.bounded {s t : State} (h : s.Kept t) (hb : s.delta.Bounded) : t.delta.Bounded := by
  refine ⟨fun n y hy => ?_, h.owned hb.2⟩
  obtain ⟨-, empty, -⟩ | ⟨x, hx, follows⟩ := h.entries n y hy
  · simp [empty]
  · exact follows.queue (hb.1 n x hx)

/-- Settles O57: each part is kept by every command, which is said once in `State.Kept.of_exec`. -/
theorem everyStepKeepsTheQueuesTheSetsAndTheLease : Obligations.EveryStepKeepsTheQueuesTheSetsAndTheLease := by
  intro s t h
  have kept := State.Kept.of_step h
  exact ⟨fun ⟨replies, delta⟩ => ⟨kept.replies replies, kept.bounded delta⟩, kept.sets, kept.lease, kept.images⟩

/-- Settles O51: every context of the new table follows the one in its entry, or has just been opened with nothing in it. -/
theorem everyPublicationOfAContextIsCountedOnce : Obligations.EveryPublicationOfAContextIsCountedOnce := by
  intro c s t below h
  have kept := State.Kept.of_exec h
  refine ⟨fun n y hy => ?_, fun n x y hx hy => ?_⟩
  · obtain ⟨-, -, empty⟩ | ⟨x, hx, follows⟩ := kept.entries n y hy
    · simp [Context.belowLimit, empty, Accumulation.empty, Config.countLimit]
    · exact follows.below (below n x hx)
  · obtain ⟨free, -, -⟩ | ⟨x', hx', follows⟩ := kept.entries n y hy
    · rw [hx] at free; cases free
    · cases hx.symm.trans hx'
      exact ⟨follows.owner, follows.start, follows.period, follows.counted (below n x hx)⟩

/-! ## Arrivals at DELTA -/

section Arrivals

variable {reached : Context → Bool} {entry : CtxNum → Context → Entry} {n : CtxNum} {x : Context}

theorem entryAfter_unreached (h : reached x = false) : entryAfter reached entry n (some x) = some x := by
  simp [entryAfter, h]

theorem entryAfter_keeps {y : Context} (h : reached x = true) (he : entry n x = .keeps y) :
    entryAfter reached entry n (some x) = some y := by
  simp [entryAfter, h, he]

theorem entryAfter_closes {owner : Port} {tag : Byte} {record : DeltaRecord} {d : Nat} (h : reached x = true)
    (he : entry n x = .closes owner tag record d) : entryAfter reached entry n (some x) = none := by
  simp [entryAfter, h, he]

end Arrivals

theorem deltaArrival_eq {s : State} {p : Publication} {rest : List Publication} (h : s.arrivals.atDelta = p :: rest) :
    deltaArrival s =
      ctxNumbers.foldl
        (fun t n => t.entryAt (fun x => decide (x.state = .opened ∧ x.position = p.number)) (fun n x => x.take n p) n)
        { s with
          arrivals := { s.arrivals with atDelta := rest }, delta := { s.delta with lastArrival := some p.number } } := by
  simp only [deltaArrival, h, State.liveAt_eq]

theorem dropArrival_eq {s : State} {d : PubNum} {rest : List PubNum} (h : s.arrivals.drops = d :: rest) :
    dropArrival s =
      ctxNumbers.foldl
        (fun t n => t.entryAt (fun x => decide (x.state = .backfilling ∧ x.position = d)) (fun n x => x.skip n) n)
        { s with arrivals := { s.arrivals with drops := rest } } := by
  simp only [dropArrival, h, State.dropAt_eq]

/-- Settles O49: both arrivals are one event at each of the eight entries, which `State.foldl_entryAt` takes apart. -/
theorem arrivalsActOnEachContextByItself : Obligations.ArrivalsActOnEachContextByItself := by
  intro s reached entry c held power h
  have event : exec c s = .next (ctxNumbers.foldl (fun t n => t.entryAt reached entry n) held)
      ∧ held.delta.contexts = s.delta.contexts ∧ held.arrivals.completions = s.arrivals.completions := by
    obtain ⟨p, rest, hp, rfl, rfl, rfl, rfl⟩ | ⟨d, rest, hd, rfl, rfl, rfl, rfl⟩ := h
    · exact ⟨(whileRunning_running deltaArrival s power).trans (congrArg _ (deltaArrival_eq hp)), rfl, rfl⟩
    · exact ⟨(whileRunning_running dropArrival s power).trans (congrArg _ (dropArrival_eq hd)), rfl, rfl⟩
  obtain ⟨run, sameContexts, sameCompletions⟩ := event
  obtain ⟨contexts, folded, each⟩ := State.foldl_entryAt reached entry ctxNumbers (by decide) held
  rw [folded, sameContexts, sameCompletions] at run
  refine ⟨contexts, _, run, fun n => ?_, rfl⟩
  have here := each n
  rw [if_pos (mem_ctxNumbers n), sameContexts] at here
  rw [here]
  refine ⟨fun free => by rw [free]; rfl, fun x hx => ?_⟩
  rw [hx]
  exact ⟨entryAfter_unreached, fun hr =>
    ⟨fun y => entryAfter_keeps hr, fun owner tag record d => entryAfter_closes hr⟩⟩

/-! ## The walk -/

theorem DeltaEngine.arrivalTaken_eq_false_iff (d : DeltaEngine) (n : PubNum) :
    d.arrivalTaken n = false ↔ ∀ l, d.lastArrival = some l → 2 ^ 47 ≤ (l - n).toNat := by
  unfold DeltaEngine.arrivalTaken
  cases d.lastArrival <;> simp

theorem DeltaEngine.arrivalTaken_eq_true_iff (d : DeltaEngine) (n : PubNum) :
    d.arrivalTaken n = true ↔ ∃ l, d.lastArrival = some l ∧ (l - n).toNat < 2 ^ 47 := by
  unfold DeltaEngine.arrivalTaken
  cases d.lastArrival <;> simp

/-- A record number that the ring holds is found at its distance from the oldest (R25, R27). -/
theorem History.record_present {h : History} {n : PubNum} {p : Publication}
    (near : (n - h.oldest).toNat < h.records.length) (hp : h.records[(n - h.oldest).toNat]? = some p) :
    h.record n = some p := by
  simp only [History.record, History.present, near, decide_true, if_true, hp]

theorem History.record_absent {h : History} {n : PubNum} (far : h.records.length ≤ (n - h.oldest).toNat) :
    h.record n = none := by
  have absent : h.present n = false := decide_eq_false (not_lt.2 far)
  simp only [History.record, absent, Bool.false_eq_true, if_false]

theorem walkStep_free {n : CtxNum} {s : State} (h : s.delta.contexts[n] = none) : walkStep n s = s := by
  simp only [walkStep, h]

/-- A context that does not walk stays (R11). -/
theorem walkStep_still {n : CtxNum} {s : State} {x : Context} (hx : s.delta.contexts[n] = some x)
    (h : x.state = .opened ∨ x.position = s.hist.next) : walkStep n s = s := by
  have still : ¬ (x.state = .backfilling ∧ x.position ≠ s.hist.next) := by
    rintro ⟨back, moving⟩
    rcases h with opened | arrived
    · rw [opened] at back; cases back
    · exact moving arrived
  simp only [walkStep, hx, if_neg still]

/-- A walk that is not at next integrates the record at its position (R11). -/
theorem walkStep_take {n : CtxNum} {s : State} {x : Context} {p : Publication} (hx : s.delta.contexts[n] = some x)
    (back : x.state = .backfilling) (moving : x.position ≠ s.hist.next) (hp : s.hist.record x.position = some p) :
    walkStep n s = s.finishWalk n (x.take n p) := by
  simp only [walkStep, hx, hp, if_pos (And.intro back moving)]

/-- A walk whose record is no longer present skips it (R11, R13). -/
theorem walkStep_skip {n : CtxNum} {s : State} {x : Context} (hx : s.delta.contexts[n] = some x)
    (back : x.state = .backfilling) (moving : x.position ≠ s.hist.next) (hp : s.hist.record x.position = none) :
    walkStep n s = s.finishWalk n (x.skip n) := by
  simp only [walkStep, hx, hp, if_pos (And.intro back moving)]

/-- Settles O50, by the cases of `walkStep` and then of `State.finishWalk`. -/
theorem aWalkStepTakesOrSkipsOneRecordAndEndsAtNext : Obligations.AWalkStepTakesOrSkipsOneRecordAndEndsAtNext := by
  intro n s power
  have run : exec (.walkStep n) s = .next (walkStep n s) := whileRunning_running (walkStep n) s power
  rw [run]
  refine ⟨fun free => by rw [walkStep_free free], fun x hx => ⟨fun still => by rw [walkStep_still hx still], ?_⟩⟩
  intro e back moving he
  have walked : walkStep n s = s.finishWalk n e := by
    obtain ⟨p, near, hp, rfl⟩ | ⟨far, rfl⟩ := he
    · exact walkStep_take hx back moving (History.record_present near hp)
    · exact walkStep_skip hx back moving (History.record_absent far)
  rw [walked]
  refine ⟨fun owner tag record d closes => by rw [closes]; rfl, fun y keeps => ?_⟩
  rw [keeps]
  refine ⟨fun arrived open_ => ?_, fun h => ?_⟩
  · have ends := And.intro arrived ((DeltaEngine.arrivalTaken_eq_false_iff _ _).2 open_)
    simp only [State.finishWalk, if_pos ends]
  · have goesOn : ¬ (y.position = s.hist.next ∧ s.delta.arrivalTaken s.hist.next = false) := by
      rintro ⟨arrived, untaken⟩
      rcases h with away | taken
      · exact away arrived
      · rw [(DeltaEngine.arrivalTaken_eq_true_iff _ _).2 taken] at untaken
        cases untaken
    simp only [State.finishWalk, if_neg goesOn]
    rfl

/-! ## Requests on the context table -/

/-- A ready request whose part leaves the ports alone is answered with what that part gives. -/
theorem requestEnd_answer {r : Req} {k : RequestKind} {carry : State → Answer} {s u : State} {result : Result}
    {payload : Payload} (ready : Ready r k s = true) (h : carry (s.served r k) = ⟨u, result, payload⟩)
    (hp : u.ports = (s.served r k).ports) : requestEnd r k carry s = .next (u.replied r k result payload) := by
  rw [requestEnd_ready r k carry s ready (by rw [h, hp]), h]

/-- A ready request that changes nothing reports its result. -/
theorem requestEnd_reported {r : Req} {k : RequestKind} {carry : State → Answer} {s : State} {result : Result}
    {payload : Payload} (ready : Ready r k s = true)
    (h : carry (s.served r k) = answer (s.served r k) result payload) :
    requestEnd r k carry s = .next (s.reported r k result payload) := requestEnd_answer ready h rfl

theorem startFormOf_eq_none {form : Byte} (h : 1 < form.toNat) : startFormOf form = none := by
  have h0 : form ≠ 0#8 := by rintro rfl; exact absurd h (by decide)
  have h1 : form ≠ 1#8 := by rintro rfl; exact absurd h (by decide)
  simp [startFormOf, h0, h1]

theorem startFormOf_isSome {form : Byte} (h : form.toNat ≤ 1) : ∃ f, startFormOf form = some f := by
  have : form = 0#8 ∨ form = 1#8 := by bv_omega
  rcases this with rfl | rfl
  · exact ⟨.next, rfl⟩
  · exact ⟨.absolute, rfl⟩

/-- The entries before a number stand before it in the order in which they are searched (R1). -/
theorem ctxNumbers_split (n : CtxNum) :
    ∃ before after, ctxNumbers = before ++ n :: after ∧ ∀ m ∈ before, m < n := by
  refine ⟨ctxNumbers.take n, ctxNumbers.drop (n + 1), ?_, ?_⟩ <;> revert n <;> decide

theorem DeltaEngine.firstFree_eq_some {d : DeltaEngine} {n : CtxNum} (free : d.contexts[n] = none)
    (lowest : ∀ m : CtxNum, m < n → d.contexts[m] ≠ none) : d.firstFree = some n := by
  obtain ⟨before, after, split, lower⟩ := ctxNumbers_split n
  refine List.find?_eq_some_iff_append.2 ⟨by rw [free]; rfl, before, after, split, fun m hm => ?_⟩
  obtain ⟨x, hx⟩ := Option.ne_none_iff_exists'.1 (lowest m (lower m hm))
  rw [hx]
  rfl

theorem DeltaEngine.firstFree_eq_none {d : DeltaEngine} (full : ∀ n : CtxNum, d.contexts[n] ≠ none) :
    d.firstFree = none := by
  refine List.find?_eq_none.2 fun n _ => ?_
  obtain ⟨x, hx⟩ := Option.ne_none_iff_exists'.1 (full n)
  rw [hx]
  exact Bool.false_ne_true

/-- The start point of NEXT: the history's next, or one past the most recent arrival that has passed it (R4, log 14). -/
theorem State.startNext_eq {s : State} {start : PubNum}
    (h : ((∀ l, s.delta.lastArrival = some l → 2 ^ 47 ≤ (l - s.hist.next).toNat) ∧ start = s.hist.next)
      ∨ ∃ l, s.delta.lastArrival = some l ∧ (l - s.hist.next).toNat < 2 ^ 47 ∧ start = l + 1) :
    s.startNext = start := by
  unfold State.startNext
  obtain ⟨untaken, rfl⟩ | ⟨l, hl, taken, rfl⟩ := h
  · rw [(DeltaEngine.arrivalTaken_eq_false_iff _ _).2 untaken]
    split <;> rfl
  · simp only [hl, (DeltaEngine.arrivalTaken_eq_true_iff _ _).2 ⟨l, hl, taken⟩, if_true]

theorem State.served_startNext (s : State) (r : Req) (k : RequestKind) : (s.served r k).startNext = s.startNext := by
  simp [State.startNext]

/-- Settles O45, by the checks of `deltaOpen` in their order. -/
theorem deltaOpenTakesTheLowestFreeEntry : Obligations.DeltaOpenTakesTheLowestFreeEntry := by
  intro r label period form number s ready
  have refused {result : Result}
      (h : deltaOpen r.port r.tag label period form number (s.served r .deltaOpen)
        = answer (s.served r .deltaOpen) result) :
      exec (.deltaOpen r label period form number) s = .next (s.reported r .deltaOpen result .none) :=
    requestEnd_reported ready h
  refine ⟨fun bad => refused (by simp only [deltaOpen, startFormOf_eq_none bad]), fun good full => ?_,
    fun n good free lowest => ?_⟩
  · obtain ⟨f, hf⟩ := startFormOf_isSome good
    exact refused (by simp only [deltaOpen, hf, State.served_delta, DeltaEngine.firstFree_eq_none full])
  have first := DeltaEngine.firstFree_eq_some free lowest
  refine ⟨fun many => ?_, fun few next start hstart => ?_, fun few absolute => ?_⟩
  · obtain ⟨f, hf⟩ := startFormOf_isSome good
    have limit : Config.contextsPerPort ≤ s.delta.owned r.port := many
    exact refused (by simp only [deltaOpen, hf, State.served_delta, first, if_pos limit])
  all_goals have few : ¬ Config.contextsPerPort ≤ s.delta.owned r.port := not_le.2 few
  · subst next
    refine requestEnd_answer ready (u := (s.served r .deltaOpen).setContext n _) ?_ rfl
    simp only [deltaOpen, show startFormOf 0#8 = some .next from rfl, State.served_delta, first, if_neg few,
      State.served_startNext, State.startNext_eq hstart]
    rfl
  · subst absolute
    have form1 : startFormOf 1#8 = some .absolute := rfl
    refine ⟨fun near => ?_, fun far => refused ?_⟩
    · have present : s.hist.present number = true := decide_eq_true near
      refine requestEnd_answer ready (u := (s.served r .deltaOpen).setContext n _) ?_ rfl
      simp only [deltaOpen, form1, State.served_delta, State.served_hist, first, if_neg few, present, if_true]
      rfl
    · have absent : s.hist.present number = false := decide_eq_false (not_lt.2 far)
      simp only [deltaOpen, form1, State.served_delta, State.served_hist, first, if_neg few, absent]
      rfl

/-! ## Requests on one context -/

section OwnContext

variable {s : State} {p : Port} {ctx : Byte} {n : CtxNum} {x : Context}

theorem contextOf_eq_none (h : 7 < ctx.toNat) : contextOf ctx = none := by
  simp only [contextOf, dif_neg (by omega : ¬ ctx.toNat < 8)]

theorem contextOf_eq_some (h : ctx.toNat = n) : contextOf ctx = some n := by
  have lt : ctx.toNat < 8 := h ▸ n.isLt
  simp only [contextOf, dif_pos lt]
  exact congrArg some (Fin.ext h)

theorem State.ownContext_outOfRange (h : 7 < ctx.toNat) : s.ownContext p ctx = .error .outOfRange := by
  simp only [State.ownContext, contextOf_eq_none h]

theorem State.ownContext_noContext (h : ctx.toNat = n) (free : s.delta.contexts[n] = none) :
    s.ownContext p ctx = .error .noContext := by
  simp only [State.ownContext, contextOf_eq_some h, free]

theorem State.ownContext_notOwner (h : ctx.toNat = n) (hx : s.delta.contexts[n] = some x) (other : x.owner ≠ p) :
    s.ownContext p ctx = .error .notOwner := by
  simp only [State.ownContext, contextOf_eq_some h, hx, if_neg other]

theorem State.ownContext_ok (h : ctx.toNat = n) (hx : s.delta.contexts[n] = some x) (own : x.owner = p) :
    s.ownContext p ctx = .ok (n, x) := by
  simp only [State.ownContext, contextOf_eq_some h, hx, if_pos own]

theorem State.served_ownContext (s : State) (r : Req) (k : RequestKind) :
    (s.served r k).ownContext p ctx = s.ownContext p ctx := by
  simp only [State.ownContext, State.served_delta]

end OwnContext

/-- The four requests on a context refuse it for one reason, before anything of their own (R14). -/
theorem exec_refused {r : Req} {ctx discard : Byte} {s : State} {k : RequestKind} {c : Instr}
    (hc : (k, c) ∈
      [(RequestKind.deltaTake, Instr.deltaTake r ctx), (.deltaCollect, .deltaCollect r ctx),
        (.deltaClose, .deltaClose r ctx discard), (.deltaStatus, .deltaStatus r ctx)])
    (ready : Ready r k s = true) {e : Result} (h : s.ownContext r.port ctx = .error e) :
    exec c s = .next (s.reported r k e .none) := by
  have own (k' : RequestKind) : (s.served r k').ownContext r.port ctx = .error e := by rw [State.served_ownContext, h]
  simp only [List.mem_cons, Prod.mk.injEq, List.not_mem_nil, or_false] at hc
  obtain ⟨rfl, rfl⟩ | ⟨rfl, rfl⟩ | ⟨rfl, rfl⟩ | ⟨rfl, rfl⟩ := hc
  · exact requestEnd_reported ready (by simp only [deltaTake, own])
  · exact requestEnd_reported ready (by simp only [deltaCollect, own])
  · exact requestEnd_reported ready (by simp only [deltaClose, own])
  · exact requestEnd_reported ready (by simp only [deltaStatus, own])

theorem Context.recordOf_pending (x : Context) (n : CtxNum) (kind : RecordKind) (h : x.acc.count ≠ 0#32) :
    x.recordOf n kind =
      { ctx := n, kind := kind, label := x.label, sequence := x.sequence, first := x.acc.first, last := x.acc.last,
        count := x.acc.count, voids := x.acc.voids, skipped := x.acc.skipped, startTime := x.acc.startTime,
        endTime := x.acc.endTime, angle := x.acc.angle, velocity := x.acc.velocity, total := x.acc.total,
        flags := x.acc.flags } := by
  simp only [Context.recordOf, if_neg h]

theorem Context.recordOf_empty (x : Context) (n : CtxNum) (kind : RecordKind) (h : x.acc.count = 0#32) :
    x.recordOf n kind =
      { ctx := n, kind := kind, label := x.label, sequence := x.sequence, first := none, last := none, count := 0#32,
        voids := 0#32, skipped := x.acc.skipped, startTime := 0#48, endTime := 0#48, angle := ⟨0#64, 0#64, 0#64⟩,
        velocity := ⟨0#64, 0#64, 0#64⟩, total := 0#48,
        flags := ⟨false, false, false, false, false, false, false, false, false, false, false⟩ } := by
  simp only [Context.recordOf, if_pos h]
  rfl

/-- Settles O46: the refusals are `exec_refused`, the carried requests follow the branches of their own functions. -/
theorem deltaRequestsActOnTheirOwnContext : Obligations.DeltaRequestsActOnTheirOwnContext := by
  refine ⟨fun r ctx discard s k c hc ready => ?_, fun r ctx discard s n x hctx hx owner => ?_, fun x n kind =>
    ⟨x.recordOf_pending n kind, x.recordOf_empty n kind⟩⟩
  · exact ⟨fun far => exec_refused hc ready (State.ownContext_outOfRange far), fun n hctx =>
      ⟨fun free => exec_refused hc ready (State.ownContext_noContext hctx free), fun x hx other =>
        exec_refused hc ready (State.ownContext_notOwner hctx hx other)⟩⟩
  have own (k : RequestKind) : (s.served r k).ownContext r.port ctx = .ok (n, x) := by
    rw [State.served_ownContext, State.ownContext_ok hctx hx owner]
  refine ⟨fun ready => ⟨fun back => ?_, fun opened => ?_⟩, fun ready => ⟨fun empty => ?_, fun d rest queued => ?_⟩,
    fun ready => ⟨fun queued keep => ?_, fun closes => ?_⟩, fun ready => ?_⟩
  · exact requestEnd_reported ready (by simp only [deltaTake, own, back])
  · have taken : deltaTake r.port ctx (s.served r .deltaTake) =
        ⟨(s.served r .deltaTake).setContext n (some x.afterRecord), .ok, .deltaTaken (x.recordOf n .manual)⟩ := by
      simp only [deltaTake, own, opened]
    exact requestEnd_answer ready taken rfl
  · exact requestEnd_reported ready (by simp only [deltaCollect, own, empty])
  · exact requestEnd_answer ready (by simp only [deltaCollect, own, queued]) rfl
  · exact requestEnd_reported ready (by simp only [deltaClose, own, if_pos (And.intro queued keep)])
  · have goes : ¬ (x.queue ≠ [] ∧ discard = 0#8) := by
      rintro ⟨queued, keep⟩
      exact closes.elim queued (· keep)
    exact requestEnd_answer ready (by simp only [deltaClose, own, if_neg goes]) rfl
  · exact requestEnd_reported ready (by simp only [deltaStatus, own]; rfl)

/-! ## Auto takes -/

/-- An auto boundary falls where the period divides the integer after the number (R8, log 16). -/
theorem boundaryAfter_iff (period : BitVec 16) (n : PubNum) :
    boundaryAfter period n = true ↔ period ≠ 0#16 ∧ period.toNat ∣ n.toNat + 1 := by
  simp [boundaryAfter, Nat.dvd_iff_mod_eq_zero]

theorem Context.boundary_none {c : Context} {n : CtxNum} {passed : PubNum}
    (h : boundaryAfter c.period passed = false) : c.boundary n passed = c := by
  simp only [Context.boundary, h, Bool.false_eq_true, if_false]

theorem Context.boundary_room {c : Context} {n : CtxNum} {passed : PubNum}
    (h : boundaryAfter c.period passed = true) (room : c.queue.length < Config.takeDepth) :
    c.boundary n passed = c.autoTake n := by
  simp only [Context.boundary, h, room, if_true]

theorem Context.boundary_full {c : Context} {n : CtxNum} {passed : PubNum}
    (h : boundaryAfter c.period passed = true) (full : ¬ c.queue.length < Config.takeDepth) :
    c.boundary n passed = { c with acc := { c.acc with flags := { c.acc.flags with takeDeferred := true } } } := by
  simp only [Context.boundary, h, full, if_true, if_false]

/-- Settles O48, by the cases of the boundary test and of the count limit. -/
theorem autoTakesFollowTheirBoundariesAndTheCountLimit :
    Obligations.AutoTakesFollowTheirBoundariesAndTheCountLimit := by
  refine ⟨fun c n p => rfl, fun c n => rfl, fun c n passed => ⟨fun off => ?_, fun auto on => ?_⟩, fun c n =>
    ⟨fun below => ?_, fun atLimit => ?_⟩⟩
  · refine Context.boundary_none (Bool.eq_false_iff.2 fun falls => ?_)
    obtain ⟨auto, on⟩ := (boundaryAfter_iff _ _).1 falls
    exact off.elim auto (· on)
  · have falls := (boundaryAfter_iff c.period passed).2 ⟨auto, on⟩
    exact ⟨Context.boundary_room falls, fun full => Context.boundary_full falls (not_lt.2 full)⟩
  · have below : c.acc.count.toNat + c.acc.skipped.toNat < Config.countLimit := below
    simp only [Context.limit, if_pos below]
  · have reached : ¬ c.acc.count.toNat + c.acc.skipped.toNat < Config.countLimit := not_lt.2 atLimit
    refine ⟨fun room => ?_, fun full => ?_⟩
    · have room : c.queue.length < Config.takeDepth := room
      simp only [Context.limit, if_neg reached, if_pos room]
      rfl
    · have full : ¬ c.queue.length < Config.takeDepth := not_lt.2 full
      simp only [Context.limit, if_neg reached, if_neg full]

/-! ## Integration -/

/-- A sum within its limit is kept exactly by 64 bits. -/
theorem toInt_ofInt_of_within {v : Int} (low : -sumLimit ≤ v) (high : v ≤ sumLimit) : (BitVec.ofInt 64 v).toInt = v := by
  unfold sumLimit at low high
  exact BitVec.toInt_ofInt_eq_self (by decide) (by norm_num; omega) (by norm_num; omega)

theorem addToSum_held (sum : BitVec 64) (value : BitVec 32) (d : Micros) : addToSum sum true value d = (sum, true) := by
  simp only [addToSum, if_true]

section Sums

variable {sum : BitVec 64} {value : BitVec 32} {d : Micros}

theorem addToSum_above (h : sumLimit < sum.toInt + value.toInt * d.toNat) :
    addToSum sum false value d = (BitVec.ofInt 64 sumLimit, true) := by
  simp only [addToSum, Bool.false_eq_true, if_false, if_pos h]

theorem addToSum_below (h : sum.toInt + value.toInt * d.toNat < -sumLimit) :
    addToSum sum false value d = (BitVec.ofInt 64 (-sumLimit), true) := by
  have notAbove : ¬ sumLimit < sum.toInt + value.toInt * d.toNat := by unfold sumLimit at *; omega
  simp only [addToSum, Bool.false_eq_true, if_false, if_neg notAbove, if_pos h]

theorem addToSum_within (low : -sumLimit ≤ sum.toInt + value.toInt * d.toNat)
    (high : sum.toInt + value.toInt * d.toNat ≤ sumLimit) :
    addToSum sum false value d = (BitVec.ofInt 64 (sum.toInt + value.toInt * d.toNat), false) := by
  simp only [addToSum, Bool.false_eq_true, if_false, if_neg (not_lt.2 high), if_neg (not_lt.2 low)]

end Sums

theorem addToTotal_held (total d : Micros) : addToTotal total true d = (total, true) := by
  simp only [addToTotal, if_true]

theorem addToTotal_within {total d : Micros} (h : total.toNat + d.toNat ≤ 2 ^ 48 - 1) :
    (addToTotal total false d).1.toNat = total.toNat + d.toNat ∧ (addToTotal total false d).2 = false := by
  have room : ¬ 2 ^ 48 ≤ total.toNat + d.toNat := by omega
  simp only [addToTotal, Bool.false_eq_true, if_false, if_neg room, BitVec.toNat_add, and_true]
  omega

theorem addToTotal_above {total d : Micros} (h : 2 ^ 48 - 1 < total.toNat + d.toNat) :
    (addToTotal total false d).1.toNat = 2 ^ 48 - 1 ∧ (addToTotal total false d).2 = true := by
  have beyond : 2 ^ 48 ≤ total.toNat + d.toNat := by omega
  simp only [addToTotal, Bool.false_eq_true, if_false, if_pos beyond]
  decide

/-- The sums and their marks that a VOID publication leaves as they were. -/
theorem Accumulation.add_void {a : Accumulation} {n : BitVec 16} {p : Publication} (h : p.flags.void = true) :
    (a.add n p).angle = a.angle ∧ (a.add n p).velocity = a.velocity ∧ (a.add n p).angleHeld = a.angleHeld
      ∧ (a.add n p).velocityHeld = a.velocityHeld := by
  simp only [Accumulation.add, h, if_true]
  exact ⟨rfl, rfl, rfl, rfl⟩

/-- The sums and their marks after any other publication. -/
theorem Accumulation.add_sums {a : Accumulation} {n : BitVec 16} {p : Publication} (h : p.flags.void = false) :
    (a.add n p).angle = (addToSums a.angle a.angleHeld p.gyro p.interval).map Prod.fst
      ∧ (a.add n p).angleHeld = (addToSums a.angle a.angleHeld p.gyro p.interval).map Prod.snd
      ∧ (a.add n p).velocity = (addToSums a.velocity a.velocityHeld p.accel p.interval).map Prod.fst
      ∧ (a.add n p).velocityHeld = (addToSums a.velocity a.velocityHeld p.accel p.interval).map Prod.snd := by
  simp only [Accumulation.add, h, Bool.false_eq_true, if_false, and_self]

/-- The flags after a publication, by the marks that it leaves (R6). -/
theorem Accumulation.add_flags (a : Accumulation) (n : BitVec 16) (p : Publication) :
    (a.add n p).flags =
      { heldSeen := a.flags.heldSeen || p.flags.held, voidSeen := a.flags.voidSeen || p.flags.void,
        suspectSeen := a.flags.suspectSeen || p.flags.suspect,
        saturatedSeen := a.flags.saturatedSeen || p.flags.saturated,
        sourceChangeSeen := a.flags.sourceChangeSeen || p.flags.sourceChange,
        epochSpan := a.flags.epochSpan || (a.count ≠ 0#32 && a.lastEpoch ≠ some p.epoch),
        syncFallbackSeen := a.flags.syncFallbackSeen || p.flags.syncFallback,
        sumSaturated :=
          a.flags.sumSaturated || (a.add n p).angleHeld.x || (a.add n p).angleHeld.y || (a.add n p).angleHeld.z
            || (a.add n p).velocityHeld.x || (a.add n p).velocityHeld.y || (a.add n p).velocityHeld.z
            || (a.add n p).totalHeld,
        historyGap := a.flags.historyGap,
        partialStart := a.flags.partialStart || (a.count = 0#32 && n ≠ 0#16 && p.number.toNat % n.toNat ≠ 0),
        takeDeferred := a.flags.takeDeferred } := by
  simp only [Accumulation.add, DeltaFlags.merge, DeltaFlags.mk.injEq, Triple.toList, Triple.map, List.any_cons,
    List.any_nil, onPeriod, Bool.or_false, Bool.or_assoc, and_true, true_and]
  simp

/-- Settles O47, by the branches of `addToSum` and `addToTotal`, and field by field for the accumulation. -/
theorem integrationIsExactUntilASumIsHeld : Obligations.IntegrationIsExactUntilASumIsHeld := by
  refine ⟨fun sum value d => ⟨addToSum_held sum value d, ?_⟩, ?_⟩
  · rintro exact rfl
    refine ⟨fun above => ?_, fun below => ?_, fun low high => ?_⟩
    · rw [addToSum_above above]
      exact ⟨toInt_ofInt_of_within (by decide) (by decide), rfl⟩
    · rw [addToSum_below below]
      exact ⟨toInt_ofInt_of_within (by decide) (by decide), rfl⟩
    · rw [addToSum_within low high]
      exact ⟨toInt_ofInt_of_within low high, rfl⟩
  · rintro a n p b rfl
    have total : ((a.add n p).total, (a.add n p).totalHeld) = addToTotal a.total a.totalHeld p.interval := rfl
    refine ⟨by simp [Accumulation.add], rfl, rfl, rfl, rfl, by simp [Accumulation.add], rfl, rfl,
      Accumulation.add_void, fun moves => ?_, fun held => ?_, fun free fits => ?_, fun free beyond => ?_, a.add_flags n p⟩
    · obtain ⟨angle, angleHeld, velocity, velocityHeld⟩ := Accumulation.add_sums (a := a) (n := n) moves
      rw [angle, angleHeld, velocity, velocityHeld]
      exact ⟨rfl, rfl, rfl, rfl, rfl, rfl⟩
    all_goals obtain ⟨h1, h2⟩ := Prod.ext_iff.1 total
    · rw [held, addToTotal_held] at h1 h2
      exact ⟨h1, h2⟩
    · rw [free] at h1 h2
      obtain ⟨value, mark⟩ := addToTotal_within fits
      exact ⟨(congrArg BitVec.toNat h1).trans value, h2.trans mark⟩
    · rw [free] at h1 h2
      obtain ⟨value, mark⟩ := addToTotal_above beyond
      exact ⟨(congrArg BitVec.toNat h1).trans value, h2.trans mark⟩

/-! ## PORT_RESET -/

/-- The end of a port's part in the lease touches CFG and the completions alone (R129). -/
theorem State.resetLease_frame (s : State) (p : Port) :
    ∃ cfg completions,
      (s.resetLease p).1 = { s with cfg := cfg, arrivals := { s.arrivals with completions := completions } } := by
  unfold State.resetLease
  split
  · cases hw : s.cfg.waiters with
    | nil => exact ⟨_, s.arrivals.completions, s.endLease_free hw⟩
    | cons w rest => exact ⟨_, _, s.endLease_waiter w rest hw⟩
  · split
    · exact ⟨_, s.arrivals.completions, rfl⟩
    · exact ⟨s.cfg, s.arrivals.completions, rfl⟩

/-- The holder's lease is left FREE when nobody waits (R124, R129). -/
theorem State.resetLease_alone {s : State} {p : Port} (holds : s.cfg.holds p = true) (hw : s.cfg.waiters = []) :
    s.resetLease p = ({ s with cfg := { s.cfg with lease := none } }, .released) := by
  simp only [State.resetLease, holds, if_true, s.endLease_free hw]

/-- The holder's lease passes to the oldest waiter (R127, R129). -/
theorem State.resetLease_handover {s : State} {p : Port} {w : Waiter} {rest : List Waiter}
    (holds : s.cfg.holds p = true) (hw : s.cfg.waiters = w :: rest) :
    s.resetLease p =
      (({ s with
          cfg :=
            { s.cfg with
              lease := some ⟨w.port, s.expiryAfter w.period, s.cfg.active⟩, waiters := rest } } : State).complete
        w.port (Reply.completion .leaseAcquire w.tag .granted (.leasePeriod w.period s.cfg.epoch)), .released) := by
  simp only [State.resetLease, holds, if_true, s.endLease_waiter w rest hw]

/-- A port that does not hold the lease leaves the queue of waiters, if it waits there (R129). -/
theorem State.resetLease_other {s : State} {p : Port} (other : s.cfg.holds p = false) :
    s.resetLease p =
      ({ s with cfg := s.cfg.withoutWaiter p },
        if p ∈ s.cfg.waiters.map Waiter.port then .cancelled else .none) := by
  by_cases waits : p ∈ s.cfg.waiters.map Waiter.port
  · have found := (s.cfg.waiterPosition_isSome p).2 waits
    simp only [State.resetLease, other, found, if_pos waits, Bool.false_eq_true, if_false, if_true]
  · have absent : (s.cfg.waiterPosition p).isSome = false :=
      Bool.eq_false_iff.2 fun found => waits ((s.cfg.waiterPosition_isSome p).1 found)
    have stays : s.cfg.withoutWaiter p = s.cfg := by
      have keepAll : s.cfg.waiters.filter (fun w => w.port ≠ p) = s.cfg.waiters :=
        List.filter_eq_self.2 fun w hw => decide_eq_true fun e => waits (e ▸ List.mem_map_of_mem hw)
      simp only [ConfigUnit.withoutWaiter, keepAll]
    simp only [State.resetLease, other, absent, if_neg waits, Bool.false_eq_true, if_false, stays]

/-- The hub when a PORT_RESET has cleared what the port owns in its own controller, COND, HIST and DELTA. -/
def State.portCleared (p : Port) (s : State) : State :=
  (((s.modifyPort p fun q => { q with queue := [], mask := AttnSet.default }).clearConditions p).resetReader
    p).freeContexts p

theorem State.portCleared_tb (s : State) (p : Port) : (s.portCleared p).tb = s.tb := by simp [State.portCleared]

theorem State.portCleared_cfg (s : State) (p : Port) : (s.portCleared p).cfg = s.cfg := by simp [State.portCleared]

theorem State.portCleared_arrivals (s : State) (p : Port) : (s.portCleared p).arrivals = s.arrivals := by
  simp [State.portCleared]

/-- What a PORT_RESET leaves (R183): CFG and the completions are those of the port's end in the lease, without the
completions to the port itself. -/
theorem portReset_state (p : Port) (s : State) :
    (portReset p s).state =
      { s with
        links := ⟨s.links.a.forget p, s.links.b.forget p⟩, hist := (s.resetReader p).hist,
        delta := (s.freeContexts p).delta,
        ports := s.ports.set p { s.ports[p] with queue := [], mask := AttnSet.default },
        cfg := ((s.portCleared p).resetLease p).1.cfg, store := s.store.forget p, cond := (s.clearConditions p).cond,
        arrivals :=
          { s.arrivals with
            completions := ((s.portCleared p).resetLease p).1.arrivals.completions.filter fun c => c.port ≠ p } } := by
  obtain ⟨cfg, completions, frame⟩ := (s.portCleared p).resetLease_frame p
  have raw : (portReset p s).state =
      { ((s.portCleared p).resetLease p).1 with
        links :=
          ⟨((s.portCleared p).resetLease p).1.links.a.forget p, ((s.portCleared p).resetLease p).1.links.b.forget p⟩,
        store := ((s.portCleared p).resetLease p).1.store.forget p,
        arrivals := ((s.portCleared p).resetLease p).1.arrivals.withoutCompletions p } := rfl
  rw [raw, frame]
  rfl

section PortReset

variable (p : Port) (s : State)

theorem portReset_payload :
    (portReset p s).payload =
      .portReset s.ports[p].queue.length (s.delta.owned p) ((s.portCleared p).resetLease p).2
        (if s.store.commitOf p then 1 else 0)
        ((if s.links.a.commandOf p then 1 else 0) + (if s.links.b.commandOf p then 1 else 0)) := rfl

theorem portReset_ports :
    (portReset p s).state.ports = s.ports.set p { s.ports[p] with queue := [], mask := AttnSet.default } := by
  rw [portReset_state]

theorem portReset_hist : (portReset p s).state.hist = (s.resetReader p).hist := by rw [portReset_state]

theorem portReset_cond : (portReset p s).state.cond = (s.clearConditions p).cond := by rw [portReset_state]

theorem portReset_delta : (portReset p s).state.delta = (s.freeContexts p).delta := by rw [portReset_state]

theorem portReset_links : (portReset p s).state.links = ⟨s.links.a.forget p, s.links.b.forget p⟩ := by
  rw [portReset_state]

theorem portReset_store : (portReset p s).state.store = s.store.forget p := by rw [portReset_state]

theorem portReset_cfg : (portReset p s).state.cfg = ((s.portCleared p).resetLease p).1.cfg := by rw [portReset_state]

theorem portReset_completions :
    (portReset p s).state.arrivals.completions =
      ((s.portCleared p).resetLease p).1.arrivals.completions.filter fun c => c.port ≠ p := by rw [portReset_state]

/-- The blocks that a PORT_RESET leaves alone. -/
theorem portReset_frame :
    (portReset p s).state.tb = s.tb ∧ (portReset p s).state.sel = s.sel ∧ (portReset p s).state.medium = s.medium
      ∧ (portReset p s).state.power = s.power
      ∧ { (portReset p s).state.arrivals with completions := [] } = { s.arrivals with completions := [] } := by
  rw [portReset_state]
  exact ⟨rfl, rfl, rfl, rfl, rfl⟩

/-- A PORT_RESET ends no activation: the active image and its epoch stand (R129). -/
theorem portReset_active :
    (portReset p s).state.cfg.active = s.cfg.active ∧ (portReset p s).state.cfg.epoch = s.cfg.epoch := by
  rw [portReset_cfg, ← s.portCleared_cfg p]
  cases holds : (s.portCleared p).cfg.holds p with
  | false =>
    rw [State.resetLease_other holds]
    exact ⟨rfl, rfl⟩
  | true =>
    cases waiting : (s.portCleared p).cfg.waiters with
    | nil =>
      rw [State.resetLease_alone holds waiting]
      exact ⟨rfl, rfl⟩
    | cons w rest =>
      rw [State.resetLease_handover holds waiting]
      exact ⟨rfl, rfl⟩

end PortReset

/-- A PORT_RESET in a transaction is carried out, and its own reply is then alone in the queue. -/
theorem exec_portReset {r : Req} {s : State} (inTransaction : s.inTransaction r.port = true)
    (running : s.store.device = .running) :
    exec (.portReset r) s =
      .next (((portReset r.port (s.served r .portReset)).state).replied r .portReset .ok
        (portReset r.port (s.served r .portReset)).payload) := by
  have run := requestEnd_carried r .portReset (portReset r.port) s inTransaction (.inl running)
  have room : (portReset r.port (s.served r .portReset)).state.ports[r.port].queue.length < Config.replyDepth := by
    simp [portReset_ports, Config.replyDepth]
  rw [State.appendReply_room _ _ _ room] at run
  exact run

section PortReset

variable (s : State) (p q : Port)

theorem getElem_portReset_ports :
    (portReset p s).state.ports[q] =
      if q = p then { s.ports[p] with queue := [], mask := AttnSet.default } else s.ports[q] := by
  simp only [portReset_ports]
  exact getElem_set_fin ..

theorem getElem_portReset_sets : (portReset p s).state.cond.sets[q] = if q = p then [] else s.cond.sets[q] := by
  simp only [portReset_cond]
  exact getElem_set_fin ..

theorem getElem_portReset_readers :
    (portReset p s).state.hist.readers[q] =
      if q = p then ⟨s.hist.next, 0#16, 0#32, 0#16, false⟩ else s.hist.readers[q] := by
  simp only [portReset_hist]
  exact s.modifyReader_reader p q _

theorem getElem_portReset_contexts (n : CtxNum) :
    (portReset p s).state.delta.contexts[n] = if ownedBy p s.delta.contexts[n] then none else s.delta.contexts[n] := by
  simp [portReset_delta, State.freeContexts]

end PortReset

/-- What a PORT_RESET of the holder leaves in CFG when nobody waits (R129). -/
theorem portReset_alone {s : State} {p : Port} (holds : s.cfg.holds p = true) (hw : s.cfg.waiters = []) :
    ((s.portCleared p).resetLease p).2 = .released
      ∧ (portReset p s).state.cfg = { s.cfg with lease := none }
      ∧ (portReset p s).state.arrivals.completions = s.arrivals.completions.filter fun c => c.port ≠ p := by
  rw [← s.portCleared_cfg p] at holds hw
  rw [portReset_cfg, portReset_completions, State.resetLease_alone holds hw, s.portCleared_cfg,
    s.portCleared_arrivals]
  exact ⟨rfl, rfl, rfl⟩

/-- What a PORT_RESET of the holder leaves in CFG when another port waits (R127, R129). -/
theorem portReset_handover {s : State} {p : Port} {w : Waiter} {rest : List Waiter} (holds : s.cfg.holds p = true)
    (hw : s.cfg.waiters = w :: rest) :
    ((s.portCleared p).resetLease p).2 = .released
      ∧ (portReset p s).state.cfg =
          { s.cfg with lease := some ⟨w.port, s.expiryAfter w.period, s.cfg.active⟩, waiters := rest }
      ∧ (portReset p s).state.arrivals.completions =
          (s.arrivals.completions.filter fun c => c.port ≠ p)
            ++ (if w.port = p then []
              else [⟨w.port, Reply.completion .leaseAcquire w.tag .granted (.leasePeriod w.period s.cfg.epoch)⟩]) := by
  have expiry : (s.portCleared p).expiryAfter w.period = s.expiryAfter w.period := by
    simp only [State.expiryAfter, State.now, State.portCleared_tb]
  rw [← s.portCleared_cfg p] at holds hw
  rw [portReset_cfg, portReset_completions, State.resetLease_handover holds hw, expiry, s.portCleared_cfg,
    State.complete_arrivals, s.portCleared_arrivals]
  refine ⟨rfl, rfl, ?_⟩
  rw [List.filter_append]
  by_cases e : w.port = p <;> simp [e]

/-- What a PORT_RESET of a port without the lease leaves in CFG (R129). -/
theorem portReset_other {s : State} {p : Port} (other : s.cfg.holds p = false) :
    ((s.portCleared p).resetLease p).2 = (if p ∈ s.cfg.waiters.map Waiter.port then .cancelled else .none)
      ∧ (portReset p s).state.cfg = s.cfg.withoutWaiter p
      ∧ (portReset p s).state.arrivals.completions = s.arrivals.completions.filter fun c => c.port ≠ p := by
  rw [← s.portCleared_cfg p] at other
  rw [portReset_cfg, portReset_completions, State.resetLease_other other, s.portCleared_cfg, s.portCleared_arrivals]
  exact ⟨rfl, rfl, rfl⟩

/-- Settles O18: the blocks outside CFG by `portReset_state`, CFG and the completions by the three cases of
`State.resetLease`. -/
theorem portResetClearsThePortAlone : Obligations.PortResetClearsThePortAlone := by
  intro r s inTransaction running
  obtain ⟨tx, htx, -⟩ := s.inTransaction_some r.port inTransaction
  have own := s.served_port r .portReset
  rw [htx] at own
  obtain ⟨tb, sel, medium, power, inFlight⟩ := portReset_frame r.port (s.served r .portReset)
  obtain ⟨active, epoch⟩ := portReset_active r.port (s.served r .portReset)
  refine ⟨_, (((s.served r .portReset).portCleared r.port).resetLease r.port).2,
    exec_portReset inTransaction running, ?_⟩
  simp only [State.replied_ports, State.replied_cond, State.replied_hist, State.replied_delta, State.replied_cfg,
    State.replied_arrivals, State.replied_links, State.replied_store, State.replied_tb, State.replied_sel,
    State.replied_medium, State.replied_power]
  refine ⟨?_, fun q hq => ⟨?_, ?_, ?_⟩, ?_, ?_, ?_, ?_, ?_, fun n => ?_, ?_, ?_, ?_, fun holds alone => ?_,
    fun w rest holds waiting => ?_, fun other => ?_, ?_, ?_, ?_, ?_, ?_, ?_, ?_⟩
  · simp only [getElem_set_fin, getElem_portReset_ports, if_true, portReset_payload, own, State.served_delta,
      State.served_store, State.served_links]
    rfl
  · simp only [getElem_set_fin, getElem_portReset_ports, if_neg hq, s.served_other r _ q hq.symm]
  · simp only [getElem_portReset_sets, if_neg hq, State.served_cond]
  · simp only [getElem_portReset_readers, if_neg hq, State.served_hist]
  · simp only [getElem_portReset_sets, if_true]
  · simp only [portReset_cond, State.clearConditions_cond, State.served_cond]
  · simp only [getElem_portReset_readers, if_true, State.served_hist]
  · simp only [portReset_hist, State.resetReader, State.modifyReader_hist, State.served_hist]
  · simp only [portReset_hist, State.resetReader, State.modifyReader_hist, State.served_hist]
  · simp only [getElem_portReset_contexts, State.served_delta]
  · simp only [portReset_delta, State.freeContexts, State.served_delta]
  · rw [active, State.served_cfg]
  · rw [epoch, State.served_cfg]
  · rw [← s.served_cfg r .portReset] at holds alone
    obtain ⟨outcome, cfg, completions⟩ := portReset_alone holds alone
    rw [outcome, cfg, completions, State.served_arrivals]
    exact ⟨rfl, rfl, alone, rfl⟩
  · rw [← s.served_cfg r .portReset] at holds waiting
    obtain ⟨outcome, cfg, completions⟩ := portReset_handover holds waiting
    rw [outcome, cfg, completions, State.served_arrivals, State.served_cfg]
    have expiry : (s.served r .portReset).expiryAfter w.period = s.expiryAfter w.period := by
      simp only [State.expiryAfter, State.now, State.served_tb]
    exact ⟨rfl, by rw [expiry], rfl, rfl⟩
  · rw [← s.served_cfg r .portReset] at other
    obtain ⟨outcome, cfg, completions⟩ := portReset_other other
    rw [outcome, cfg, completions, State.served_arrivals, State.served_cfg]
    exact ⟨rfl, rfl, rfl, rfl⟩
  · rw [portReset_links, State.served_links]
  · rw [portReset_store, State.served_store]
  · rw [tb, State.served_tb]
  · rw [sel, State.served_sel]
  · rw [medium, State.served_medium]
  · rw [power, State.served_power]
  · rw [inFlight, State.served_arrivals]

/-! ## The status summary -/

theorem sum_bitAt_lt (f : Nat → Bool) (m : Nat) : ∑ i ∈ Finset.range m, bitAt (f i) i < 2 ^ m := by
  induction m with
  | zero => simp
  | succ m ih =>
    have : bitAt (f m) m ≤ 2 ^ m := by unfold bitAt; split <;> simp
    rw [Finset.sum_range_succ, pow_succ]
    omega

/-- Items packed at the bits of their own numbers are read back there. -/
theorem testBit_sum_bitAt (f : Nat → Bool) (m k : Nat) :
    (∑ i ∈ Finset.range m, bitAt (f i) i).testBit k = (decide (k < m) && f k) := by
  induction m with
  | zero => simp
  | succ m ih =>
    have top : bitAt (f m) m = 2 ^ m * (f m).toNat := by cases h : f m <;> simp [bitAt]
    rw [Finset.sum_range_succ, top, Nat.add_comm, Nat.testBit_two_pow_mul_add _ (sum_bitAt_lt f m), ih]
    obtain below | rfl | above := Nat.lt_trichotomy k m
    · simp [below, Nat.lt_succ_of_lt below]
    · cases f k <;> simp
    · have far : (f m).toNat < 2 ^ (k - m) := by
        have := Bool.toNat_le (f m)
        have := Nat.one_lt_two_pow (Nat.sub_ne_zero_of_lt above)
        omega
      rw [if_neg (by omega), Nat.testBit_lt_two_pow far, decide_eq_false (by omega), Bool.false_and]

/-- The item of the status summary at each bit (R178, section 11.2). -/
def State.summaryItem (s : State) (p : Port) : Nat → Bool
  | 15 => !s.cond.sets[p].isEmpty
  | 14 => s.cfg.holds p
  | 13 => s.cfg.lease.any fun l => l.holder ≠ p
  | 12 => s.cfg.waiters.any fun w => w.port = p
  | 11 => s.hist.readers[p].reached
  | 10 => s.takeQueueNonEmpty p
  | 9 => s.store.device = .running
  | 8 => s.sel.source = some .A
  | 7 => s.sel.source = some .B
  | 6 => s.sel.source = none
  | 5 => s.sel.agreement = .disagree
  | 4 => s.store.busy
  | _ => false

theorem State.statusSummary_eq (s : State) (p : Port) :
    s.statusSummary p = BitVec.ofNat 16 (∑ i ∈ Finset.range 16, bitAt (s.summaryItem p i) i) := by
  have clear (n : Nat) : bitAt false n = 0 := rfl
  unfold State.statusSummary
  refine congrArg (BitVec.ofNat 16) ?_
  simp only [Finset.sum_range_succ, Finset.sum_range_zero, State.summaryItem, clear]
  cases s.cfg.lease <;> simp only [Option.any_none, Option.any_some, clear] <;> omega

theorem State.statusSummary_bit (s : State) (p : Port) {k : Nat} (h : k < 16) :
    (s.statusSummary p).getLsbD k = s.summaryItem p k := by
  rw [State.statusSummary_eq, BitVec.getLsbD_ofNat, testBit_sum_bitAt, decide_eq_true h, Bool.true_and, Bool.true_and]

/-- Settles O19: each bit is its item, and each item is what the section says. -/
theorem statusSummaryShowsEachItemAtItsBit : Obligations.StatusSummaryShowsEachItemAtItsBit := by
  intro s p
  have bit {k : Nat} (h : k < 16) := s.statusSummary_bit p h
  refine ⟨?_, ?_, ?_, ?_, bit (by decide), bit (by decide), bit (by decide), bit (by decide), bit (by decide),
    bit (by decide), bit (by decide), ?_, fun n hn => ?_⟩
  · rw [bit (by decide)]
    cases h : s.cond.sets[p] <;> simp [State.summaryItem, h]
  · rw [bit (by decide), Bool.eq_iff_iff, decide_eq_true_iff]
    exact s.cfg.holds_iff p
  · rw [bit (by decide)]
    cases h : s.cfg.lease <;> simp [State.summaryItem, h]
  · rw [bit (by decide), Bool.eq_iff_iff, decide_eq_true_iff]
    simp [State.summaryItem]
  · rw [bit (by decide)]
    simp [State.summaryItem, Store.busy, Bool.or_assoc]
  · rw [bit (by omega)]
    interval_cases n <;> rfl

/-! ## Part reset -/

/-- Settles O4: every value is read off the definition of part reset. -/
theorem resetHoldsTheSpecifiedValues : Obligations.ResetHoldsTheSpecifiedValues := by
  refine ⟨⟨rfl, rfl, rfl, rfl, rfl, rfl, rfl, rfl, rfl, rfl, rfl, rfl⟩, fun x => by cases x <;> rfl, rfl,
    ⟨rfl, rfl, fun p => ?_⟩, ⟨fun n => ?_, rfl⟩, fun p => ?_, ⟨rfl, rfl, rfl⟩,
    ⟨rfl, rfl, rfl, fun t => ?_, rfl, rfl, rfl, rfl⟩, fun p => ?_, fun c => ?_⟩
  · simp [State.reset, History.reset, Reader.reset]
  · simp [State.reset, DeltaEngine.reset]
  · have port : State.reset.ports[p] = PortState.reset := by simp [State.reset]
    rw [port]
    exact ⟨rfl, rfl, rfl, rfl⟩
  · simp [State.reset, Store.reset]
  · simp [State.reset, Conditions.reset]
  · simp [State.reset, Conditions.reset]

/-- Settles O56: nothing is queued, held or counted at reset, and the image that stands is the default one. -/
theorem resetMeetsEveryInvariant : Obligations.ResetMeetsEveryInvariant where
  queues := by
    refine ⟨fun p => ?_, fun n c h => ?_, fun p => ?_⟩
    · simp [State.reset, PortState.reset]
    · simp [State.reset, DeltaEngine.reset] at h
    · exact (DeltaEngine.reset_owned p).trans_le (Nat.zero_le _)
  lease := ⟨List.nodup_nil, rfl⟩
  images := ⟨Image.default_inRange, fun _ h => nomatch h⟩
  sets p := by simp [State.reset, Conditions.reset]
  ring := by
    refine ⟨⟨Nat.zero_le _, fun k => k.elim0⟩, fun p => ?_, fun k => k.elim0, rfl⟩
    have reader : State.reset.hist.readers[p] = Reader.reset := by simp [State.reset, History.reset]
    rw [reader]
    exact ⟨by decide, by decide, by decide⟩
  linkA := by unfold Link.Consistent; decide
  linkB := by unfold Link.Consistent; decide
  store := ⟨fun h => (nomatch h), fun _ => ⟨rfl, rfl⟩, fun _ => rfl, fun _ h => nomatch h⟩

end Sys2Proof.Machine

/-! SUPPORT. Proofs about publications and accepted frames: the source and the agreement state, the values of a publication,
the close and the opening of a window, and what an accepted SAMPLE moves. -/

namespace Sys2Proof.Machine

-- One theorem at a time: the check gives every concurrent one a large stack of its own.
set_option Elab.async false

/-! ## Usable heads (R49, R52) -/

theorem State.usable_iff (s : State) (x : Head) :
    s.usable x = true ↔
      (s.links.get x).state = .up ∧ (∃ f, s.sel.frames.get x = some f ∧ f.status = 0#8)
        ∧ s.store.factoryValidity.get x = .valid := by
  cases h : s.sel.frames.get x <;> simp [State.usable, statusClear, h, and_assoc]

theorem State.calibrated_of_usable {s : State} {x : Head} (h : s.usable x = true) :
    ∃ f, s.sel.frames.get x = some f
      ∧ s.calibrated x = some (calibrate (s.store.factoryAsRead x) (s.cfg.active.user.get x) f) := by
  obtain ⟨-, ⟨f, hf, -⟩, -⟩ := (s.usable_iff x).1 h
  exact ⟨f, hf, by simp [State.calibrated, h, hf]⟩

theorem State.calibrated_of_not_usable {s : State} {x : Head} (h : s.usable x = false) : s.calibrated x = none := by
  simp [State.calibrated, h]

/-! ## The choice of source (R53 to R55) -/

theorem Head.ne_other (x : Head) : x ≠ x.other := by cases x <;> decide

section PreferSource

variable {x : Head} {active : Option Head} {count hold : Nat} {u : Head → Bool}

/-- A usable preferred head that is active stays the source. -/
theorem preferSource_preferred (ha : active = some x) (hu : u x = true) :
    preferSource x active count hold u = some x := by
  simp [preferSource, ha, hu, Head.ne_other x]

/-- While the other head is active and usable, the preferred one waits for its hold-off count (R54). -/
theorem preferSource_other (ha : active = some x.other) (hu : u x.other = true) :
    preferSource x active count hold u = if u x = true ∧ hold < count then some x else some x.other := by
  simp [preferSource, ha, hu]

/-- Without a usable active head the preferred one is taken at once, before the other. -/
theorem preferSource_fresh (h : active = none ∨ ∃ y, active = some y ∧ u y = false) :
    preferSource x active count hold u = if u x then some x else if u x.other then some x.other else none := by
  refine if_neg fun ⟨ha, hu⟩ => ?_
  obtain hn | ⟨y, hy, hf⟩ := h
  · simp [hn] at ha
  · obtain rfl : y = x.other := by simpa [hy] using ha
    simp [hu] at hf

theorem preferSource_usable {y : Head} (h : preferSource x active count hold u = some y) : u y = true := by
  unfold preferSource at h
  split at h
  · split at h <;> simp_all
  · split at h
    · simp_all
    · split at h <;> simp_all

variable {mode : SourceMode}

theorem chooseSource_of_preferred (h : mode.preferred = some x) :
    chooseSource mode active count hold u = preferSource x active count hold u := by
  cases mode <;> cases h <;> rfl

/-- Only a usable head becomes the source. -/
theorem chooseSource_usable {y : Head} (h : chooseSource mode active count hold u = some y) : u y = true := by
  cases mode with
  | aOnly => by_cases hu : u .A = true <;> simp_all [chooseSource]
  | bOnly => by_cases hu : u .B = true <;> simp_all [chooseSource]
  | preferA => exact preferSource_usable h
  | preferB => exact preferSource_usable h

end PreferSource

/-- A mode without a preferred head counts nothing (R55). -/
theorem holdOffCount_none {sel : Selector} {mode : SourceMode} {u : Head → Bool} (h : mode.preferred = none) :
    holdOffCount sel mode u = (none, 0) := by
  simp [holdOffCount, h]

/-- The preferred head's count rises by one with each window in which it is usable, from 0 for a head newly preferred (R55). -/
theorem holdOffCount_some {sel : Selector} {mode : SourceMode} {u : Head → Bool} {x : Head} (h : mode.preferred = some x) :
    holdOffCount sel mode u =
      (some x, if u x then min ((if sel.counted = some x then sel.holdOff else 0) + 1) 65536 else 0) := by
  simp [holdOffCount, h, Config.holdOffLimit, eq_comm (a := some x)]

theorem holdOffCount_counted (sel : Selector) (mode : SourceMode) (u : Head → Bool) :
    (holdOffCount sel mode u).1 = mode.preferred := by
  cases h : mode.preferred with
  | none => rw [holdOffCount_none h]
  | some x => rw [holdOffCount_some h]

/-! ## The monitor (R59, R60) -/

theorem differs_iff (threshold : BitVec 32) (a b : Triple (BitVec 32)) :
    differs threshold a b = true ↔
      threshold.toNat < (a.x.toInt - b.x.toInt).natAbs ∨ threshold.toNat < (a.y.toInt - b.y.toInt).natAbs
        ∨ threshold.toNat < (a.z.toInt - b.z.toInt).natAbs := by
  simp [differs, Triple.zip, Triple.toList]

/-! ## What a close computes (R48) -/

section Closing

variable (s : State) (st : Strobe)

theorem State.closing_source :
    (s.closing st).1.source =
      chooseSource s.cfg.active.mode s.sel.source (holdOffCount s.sel s.cfg.active.mode s.usable).2
        s.cfg.active.holdOff.toNat s.usable := rfl

theorem State.closing_selSource : (s.closing st).2.source = (s.closing st).1.source := rfl

theorem State.closing_counted : (s.closing st).2.counted = s.cfg.active.mode.preferred :=
  holdOffCount_counted s.sel s.cfg.active.mode s.usable

/-- A change of source clears the hold-off count (R55). -/
theorem State.closing_holdOff :
    (s.closing st).2.holdOff =
      if (s.closing st).1.source = s.sel.source then (holdOffCount s.sel s.cfg.active.mode s.usable).2 else 0 := by
  simp [State.closing]

theorem State.closing_sourceChange :
    (s.closing st).1.flags.sourceChange = decide ((s.closing st).1.source ≠ s.sel.source) := rfl

theorem State.closing_suspect :
    (s.closing st).1.flags.suspect = decide ((s.closing st).2.agreement = .disagree) := rfl

/-- Two usable heads are compared (R59, R60). -/
theorem State.closing_compared {a b : Calibrated} (ha : s.calibrated .A = some a) (hb : s.calibrated .B = some b) :
    ((s.closing st).2.agreement, (s.closing st).2.agreementCount) =
      monitor s.sel.agreement s.sel.agreementCount (disagrees s.cfg.active a b) := by
  simp [State.closing, ha, hb]

/-- A window without two usable heads leaves the monitor as it was (R59). -/
theorem State.closing_not_compared (h : s.usable .A = false ∨ s.usable .B = false) :
    ((s.closing st).2.agreement, (s.closing st).2.agreementCount) = (s.sel.agreement, s.sel.agreementCount) := by
  obtain h | h := h
  · simp [State.closing, State.calibrated_of_not_usable h]
  · cases ha : s.calibrated .A <;> simp [State.closing, State.calibrated_of_not_usable h, ha]

/-- A source of the window is a usable head (R53, R54). -/
theorem State.usable_of_closing_source {x : Head} (h : (s.closing st).1.source = some x) : s.usable x = true :=
  chooseSource_usable h

/-- The values of a source are its calibrated frame's, and SEL keeps them (R52, R58). -/
theorem State.closing_of_source {x : Head} {f : SampleFrame} {c : Calibrated} (h : (s.closing st).1.source = some x)
    (hf : s.sel.frames.get x = some f) (hc : s.calibrated x = some c) :
    (s.closing st).1.gyro = c.gyro ∧ (s.closing st).1.accel = c.accel ∧ (s.closing st).1.temp = some f.temp
      ∧ (s.closing st).1.flags.saturated = c.clipped ∧ (s.closing st).1.flags.held = false
      ∧ (s.closing st).1.flags.void = false ∧ (s.closing st).2.heldCount = 0#16
      ∧ (s.closing st).2.lastValues = some (c.gyro, c.accel) := by
  rw [s.closing_source] at h
  simp [State.closing, h, hf, hc]

/-- The values of a hold are those of R57, by the held count after its increase. -/
theorem State.closing_hold (h : (s.closing st).1.source = none) :
    (s.closing st).1.temp = none ∧ (s.closing st).1.flags.saturated = false
      ∧ (s.closing st).2.heldCount = satInc s.sel.heldCount
      ∧ (⟨(s.closing st).1.gyro, (s.closing st).1.accel, (s.closing st).1.flags.held,
            (s.closing st).1.flags.void⟩ : Values) =
          holdValues (satInc s.sel.heldCount) s.sel.lastValues
      ∧ (s.closing st).2.lastValues =
          if (s.closing st).1.flags.void then s.sel.lastValues
          else some ((s.closing st).1.gyro, (s.closing st).1.accel) := by
  rw [s.closing_source] at h
  simp [State.closing, h]

/-- A close reads SEL, the links, CFG and STORE alone. -/
theorem State.closing_congr {s t : State} (sel : s.sel = t.sel) (links : s.links = t.links) (cfg : s.cfg = t.cfg)
    (store : s.store = t.store) : s.closing st = t.closing st := by
  have usable : s.usable = t.usable := by
    funext x
    simp only [State.usable, sel, links, store]
  have calibrated : s.calibrated = t.calibrated := by
    funext x
    simp only [State.calibrated, usable, sel, cfg, store]
  simp only [State.closing, usable, calibrated, sel, cfg]

end Closing

/-- Settles O32: each table is read off its function, and a close takes its source, its count and its agreement state from
them. -/
theorem theSourceAndTheAgreementFollowTheirTables : Obligations.TheSourceAndTheAgreementFollowTheirTables := by
  refine ⟨State.usable_iff, fun _ _ _ _ => ⟨rfl, rfl⟩, fun mode x active count hold u hm => ?_,
    fun sel mode u => ⟨holdOffCount_none, fun x => holdOffCount_some⟩,
    fun s st => ⟨s.closing_source st, s.closing_counted st, s.closing_holdOff st, fun a b => s.closing_compared st,
      s.closing_not_compared st⟩,
    differs_iff, fun _ _ _ => by rw [disagrees, Bool.or_eq_true], ⟨rfl, rfl, rfl, rfl⟩, fun n _ => ⟨rfl, rfl, rfl, rfl⟩⟩
  rw [chooseSource_of_preferred hm]
  exact ⟨preferSource_preferred, preferSource_other, preferSource_fresh⟩

/-! ## The values of a hold (R57) -/

/-- A counter that stops at its largest value, as a number. -/
theorem toNat_satInc {w : Nat} (v : BitVec w) : (satInc v).toNat = min (v.toNat + 1) (2 ^ w - 1) := by
  have bound := v.isLt
  unfold satInc
  split
  · next h =>
    have : v.toNat = 2 ^ w - 1 := by simp [h]
    omega
  · next h =>
    have : v.toNat ≠ 2 ^ w - 1 := fun e => h (BitVec.eq_of_toNat_eq (by simpa using e))
    have room : v.toNat + 1 < 2 ^ w := by omega
    rw [BitVec.toNat_add, show (1 : BitVec w).toNat = 1 % 2 ^ w from rfl, Nat.add_mod_mod, Nat.mod_eq_of_lt room]
    omega

theorem holdValues_held {n : BitVec 16} {g a : Triple (BitVec 32)} (h : n.toNat ≤ 8) :
    holdValues n (some (g, a)) = ⟨g, a, true, false⟩ := if_pos h

theorem holdValues_void {n : BitVec 16} {last : Option (Triple (BitVec 32) × Triple (BitVec 32))}
    (h : last = none ∨ 8 < n.toNat) :
    holdValues n last = ⟨⟨0#32, 0#32, 0#32⟩, ⟨0#32, 0#32, 0#32⟩, false, true⟩ := by
  cases last with
  | none => rfl
  | some v =>
    have expired : 8 < n.toNat := by simpa using h
    exact if_neg (Nat.not_le.2 expired)

/-- Settles O31: a source is a usable head, whose calibrated frame is published; a hold publishes the values of R57. -/
theorem publicationsCarryTheirSourceOrRepeatThenVoid : Obligations.PublicationsCarryTheirSourceOrRepeatThenVoid := by
  rintro s st p sel hp
  obtain ⟨rfl, rfl⟩ : (s.closing st).1 = p ∧ (s.closing st).2 = sel := by simp [hp]
  refine ⟨fun x hx => ?_, fun hn => ?_⟩
  · obtain ⟨f, hf, hc⟩ := State.calibrated_of_usable (s.usable_of_closing_source st hx)
    exact ⟨_, f, hc, hf, rfl, s.closing_of_source st hx hf hc⟩
  · obtain ⟨temp, saturated, held, values, last⟩ := s.closing_hold st hn
    have count := toNat_satInc s.sel.heldCount
    have repeated (g a : Triple (BitVec 32)) (hl : s.sel.lastValues = some (g, a)) (few : s.sel.heldCount.toNat < 8) :
        (s.closing st).1.gyro = g ∧ (s.closing st).1.accel = a ∧ (s.closing st).1.flags.held = true
          ∧ (s.closing st).1.flags.void = false := by
      rw [hl, holdValues_held (by omega)] at values
      simpa using values
    have voided (h : s.sel.lastValues = none ∨ 8 ≤ s.sel.heldCount.toNat) :
        (s.closing st).1.gyro = ⟨0#32, 0#32, 0#32⟩ ∧ (s.closing st).1.accel = ⟨0#32, 0#32, 0#32⟩
          ∧ (s.closing st).1.flags.held = false ∧ (s.closing st).1.flags.void = true := by
      rw [holdValues_void (h.imp_right fun _ => by omega)] at values
      simpa using values
    refine ⟨temp, saturated, by simp [held, count], ?_, repeated, voided⟩
    rw [last]
    by_cases h : s.sel.lastValues = none ∨ 8 ≤ s.sel.heldCount.toNat
    · obtain ⟨-, -, -, void⟩ := voided h
      rw [void, if_pos rfl]
    · obtain ⟨known, few⟩ := not_or.1 h
      obtain ⟨⟨g, a⟩, hl⟩ := Option.ne_none_iff_exists'.1 known
      obtain ⟨hg, ha, -, hv⟩ := repeated g a hl (Nat.not_le.1 few)
      rw [hv, hg, ha, hl]
      rfl

/-! ## The close of a window (R48, R50, R63) -/

theorem State.raiseIf_eq (s : State) (b : Bool) (c : Cond) :
    s.raiseIf b c = { s with cond := if b then (s.raise c).cond else s.cond } := by
  cases b <;> rfl

/-- Each awaited link without a frame is charged one miss more (R50). -/
theorem Selector.chargeMisses_eq (sel : Selector) (m : Pair Nat) :
    sel.chargeMisses m =
      ⟨m.a + (if sel.expected.a = true ∧ sel.frames.a = none then 1 else 0),
        m.b + (if sel.expected.b = true ∧ sel.frames.b = none then 1 else 0)⟩ := by
  simp only [Selector.chargeMisses, Selector.missed, Pair.get, Bool.and_eq_true, Option.isNone_iff_eq_none]
  congr 1 <;> split <;> rfl

/-- The close of a strobe's window, field by field. -/
theorem State.closeWindow_eq {s : State} {st : Strobe} (h : s.sel.current = some st) :
    s.closeWindow =
      { s with
        sel := (s.closing st).2,
        arrivals :=
          { s.arrivals with
            misses := s.sel.chargeMisses s.arrivals.misses,
            appends := s.arrivals.appends ++ [(s.closing st).1], atDelta := s.arrivals.atDelta ++ [(s.closing st).1],
            atCond :=
              s.arrivals.atCond ++ [⟨(s.closing st).1.source = none, (s.closing st).1.flags.suspect⟩] },
        cond :=
          if (s.closing st).1.source = s.sel.source then s.cond else (s.raise .sourceSwitch).cond } := by
  rw [s.closeWindow_some st h, State.raiseIf_eq, State.closing_sourceChange, State.closing_suspect, State.closing_selSource]
  by_cases hs : (s.closing st).1.source = s.sel.source <;> simp [hs]

@[simp] theorem State.closeWindow_current (s : State) : s.closeWindow.sel.current = s.sel.current := by
  cases h : s.sel.current with
  | none => simp [State.closeWindow, h]
  | some st => rw [State.closeWindow_eq h]; exact h

@[simp] theorem State.closeWindow_frames (s : State) : s.closeWindow.sel.frames = s.sel.frames := by
  cases h : s.sel.current with
  | none => simp [State.closeWindow, h]
  | some st => rw [State.closeWindow_eq h]; rfl

@[simp] theorem State.closeWindow_completions (s : State) :
    s.closeWindow.arrivals.completions = s.arrivals.completions := by
  cases h : s.sel.current with
  | none => simp [State.closeWindow, h]
  | some st => rw [State.closeWindow_eq h]

/-- The condition sets gain SOURCE_SWITCH by a change of source, and nothing else (R56). -/
theorem State.mem_closeWindow {s : State} {st : Strobe} (h : s.sel.current = some st) (c : Cond) (q : Port) :
    c ∈ s.closeWindow.cond.sets[q] ↔
      c ∈ s.cond.sets[q] ∨ c = .sourceSwitch ∧ (s.closing st).1.source ≠ s.sel.source := by
  rw [State.closeWindow_eq h]
  by_cases hs : (s.closing st).1.source = s.sel.source
  · simp [hs]
  · rw [if_neg hs, State.mem_raise]
    tauto

/-! ## The opening of a window (R43, R44) -/

/-- SEL with the strobe's window open, as the links stand (R43, R44). -/
def State.windowOpened (strobe : Strobe) (s : State) : State :=
  { s with
    sel :=
      { s.sel with
        window := .opened, previous := s.sel.current.map Strobe.number, current := some strobe, frames := ⟨none, none⟩,
        expected := ⟨s.links.a.state.expected, s.links.b.state.expected⟩ } }

theorem State.openWindow_awaiting {s : State} (strobe : Strobe)
    (h : s.links.a.state.expected = true ∨ s.links.b.state.expected = true) :
    s.openWindow strobe = s.windowOpened strobe :=
  if_neg fun ⟨ha, hb⟩ => h.elim (Bool.eq_false_iff.1 ha) (Bool.eq_false_iff.1 hb)

theorem State.openWindow_empty {s : State} (strobe : Strobe) (ha : s.links.a.state.expected = false)
    (hb : s.links.b.state.expected = false) : s.openWindow strobe = (s.windowOpened strobe).closeWindow :=
  if_pos ⟨ha, hb⟩

theorem exec_strobeAtSel {s : State} {strobe : Strobe} {rest : List Strobe} (power : s.power = .running)
    (flying : s.arrivals.strobesToSel = strobe :: rest) :
    exec .strobeAtSel s =
      .next (({ s with arrivals := { s.arrivals with strobesToSel := rest } } : State).strobeAtSel strobe) := by
  have run : exec .strobeAtSel s = .next (strobeArrival s) := whileRunning_running strobeArrival s power
  rw [run]
  simp only [strobeArrival, flying]

/-- Settles O30: the close field by field, and a strobe at SEL as a close of an OPEN window followed by an opening. -/
theorem aStrobeClosesOneWindowAndOpensTheNext : Obligations.AStrobeClosesOneWindowAndOpensTheNext := by
  refine ⟨fun l => by cases l <;> simp [LinkState.expected], ?_, ?_⟩
  · rintro s st p t current rfl rfl
    rw [State.closeWindow_eq current, Selector.chargeMisses_eq]
    refine ⟨rfl, rfl, rfl, rfl, rfl, rfl, rfl, fun h => by simp [State.closing, h], fun _ h => by simp [State.closing, h], ?_,
      by simp [State.closing_sourceChange], by simp [State.closing_suspect], rfl, rfl, rfl, rfl, rfl, current, rfl, rfl, rfl,
      fun h => if_pos h, fun h => if_neg h, rfl⟩
    cases h : s.sel.previousEpoch <;> simp [State.closing, h]
  · rintro strobe rest s v w power flying closed opened hw
    have hv : v = (if s.sel.window = .opened then
        ({ s with arrivals := { s.arrivals with strobesToSel := rest } } : State).closeWindow
        else { s with arrivals := { s.arrivals with strobesToSel := rest } }) := by
      split
      · next h => exact opened h
      · next h => exact closed h
    have links : v.links = s.links := by rw [hv]; split <;> simp
    have current : v.sel.current = s.sel.current := by rw [hv]; split <;> simp
    have run : exec .strobeAtSel s = .next (v.openWindow strobe) := by
      rw [exec_strobeAtSel power flying, hv]
      rfl
    have hw : w = v.windowOpened strobe := by rw [hw, State.windowOpened, links, current]
    rw [run, hw]
    refine ⟨fun h => ?_, fun ha hb => ?_⟩
    · rw [State.openWindow_awaiting strobe (links ▸ h)]
    · rw [State.openWindow_empty strobe (links ▸ ha) (links ▸ hb)]

/-! ## What an accepted SAMPLE moves at its link (R84 to R95) -/

/-- A SYNCING, unconfirmed link with an EMPTY slot, which is given an internal IDENTIFY (R88). -/
def Link.identifying (now : Micros) (l : Link) : Link :=
  if l.state = .syncing ∧ l.confirmed = false ∧ l.slot = none then
    { l with slot := some ⟨.identify, .internal, false, now⟩, downstream := l.downstream ++ [.command .identify] }
  else l

theorem State.keepIdentifying_eq (x : Head) (s : State) :
    s.keepIdentifying x = s.modifyLink x (Link.identifying s.tb.counter) := by
  unfold State.keepIdentifying
  dsimp only
  split
  · next h => rw [State.placeCommand, State.modifyLink, State.modifyLink, Link.identifying, if_pos h]; rfl
  · next h => rw [State.modifyLink, Link.identifying, if_neg h, Pair.set_get]

/-- A frame of this status is a head restart that the link takes as one (R90, R93). -/
def Link.restarts (l : Link) (status : Byte) : Bool :=
  (l.state = .up || l.state = .foreign) && statusRestarted status

/-- The link after the state change of an accepted SAMPLE, without its IDENTIFY (R87, R90, R91, R93). -/
def Link.moved (l : Link) (status : Byte) : Link :=
  if l.restarts status then { l with slot := none, lastResult := l.resultAfter .linkLost .none }.syncing
  else
    match l.state with
    | .absent | .faulted => l.syncing
    | .syncing => { l with goodCount := min (l.goodCount + 1) Config.bringUpFrames, silence := 0 }.tryUp
    | .up => { l with tally := l.tally - 1, silence := 0 }
    | .foreign => { l with silence := 0 }

/-- The COMPLETION of the command that a restart ends (R95, R99). -/
def Link.restartCompletion (l : Link) (x : Head) (status : Byte) : List Completion :=
  if l.restarts status then l.completionOf x .linkLost .none else []

/-- A status that raises HEAD_SENSOR: in UP, with a new axis fault (R90). -/
def Link.sensorFault (l : Link) (status : Byte) : Bool := l.state = .up && newFaults l.lastStatus status ≠ 0#6

theorem Link.sensorFault_iff (l : Link) (status : Byte) :
    l.sensorFault status = true ↔ l.state = .up ∧ newFaults l.lastStatus status ≠ 0#6 := by
  simp [Link.sensorFault]

/-- A command lost with its link raises nothing (R95). -/
theorem State.endCommand_linkLost (x : Head) (s : State) :
    s.endCommand x .linkLost .none =
      { s with
        links :=
          s.links.set x { s.links.get x with slot := none, lastResult := (s.links.get x).resultAfter .linkLost .none },
        arrivals :=
          { s.arrivals with
            completions := s.arrivals.completions ++ (s.links.get x).completionOf x .linkLost .none } } := by
  rw [State.endCommand_eq]
  rfl

/-- The link's part of an accepted SAMPLE writes its link, HEAD_SENSOR and the COMPLETION of a lost command. -/
theorem State.acceptedAtLink_eq (x : Head) (status : Byte) (s : State) :
    s.acceptedAtLink x status =
      { s with
        links := s.links.set x ((s.links.get x).moved status),
        cond := (s.raiseIf ((s.links.get x).sensorFault status) (.headSensor x)).cond,
        arrivals :=
          { s.arrivals with
            completions := s.arrivals.completions ++ (s.links.get x).restartCompletion x status } } := by
  cases h : (s.links.get x).state with
  | absent | faulted | syncing =>
    simp [State.acceptedAtLink, Link.moved, Link.restartCompletion, Link.restarts, Link.sensorFault, State.raiseIf, h,
      State.modifyLink]
  | up | foreign =>
    cases r : statusRestarted status <;>
      simp [State.acceptedAtLink, Link.moved, Link.restartCompletion, Link.restarts, Link.sensorFault, State.raiseIf_eq, h,
        r, State.modifyLink, State.endCommand_linkLost]

/-- The link after an accepted SAMPLE (R84, R86): counted, moved, its status kept, and its IDENTIFY placed. -/
def Link.afterSample (l : Link) (status : Byte) (now : Micros) : Link :=
  Link.identifying now { ({ l with accepted := satInc l.accepted } : Link).moved status with lastStatus := some status }

/-- The hub after an accepted SAMPLE that SEL has not recorded yet. -/
def State.sampled (x : Head) (status : Byte) (s : State) : State :=
  { s with
    links := s.links.set x ((s.links.get x).afterSample status s.tb.counter),
    cond := (s.raiseIf ((s.links.get x).sensorFault status) (.headSensor x)).cond,
    arrivals :=
      { s.arrivals with completions := s.arrivals.completions ++ (s.links.get x).restartCompletion x status } }

theorem State.acceptSample_eq (x : Head) (f : SampleFrame) (s : State) :
    s.acceptSample x f = (s.sampled x f.status).recordFrame x f := by
  unfold State.acceptSample State.sampled Link.afterSample
  rw [State.keepIdentifying_eq, State.acceptedAtLink_eq]
  simp only [State.modifyLink, State.raiseIf_eq, Pair.get_set_same, Pair.set_set]
  rfl

/-- A frame that answers the current strobe, the first of its link, is accepted (R83, R84). -/
theorem exec_sample_accepted {x : Head} {f : SampleFrame} {st : Strobe} {s : State} (power : s.power = .running)
    (current : s.sel.current = some st) (echo : f.echo = st.number) (fresh : s.sel.frames.get x = none) :
    exec (.sample x f) s = .next ((s.sampled x f.status).recordFrame x f) := by
  have run : exec (.sample x f) s = .next (sampleArrival x f s) := whileRunning_running (sampleArrival x f) s power
  have accepted : s.sel.classify x f.echo = none := if_pos ⟨by simp [current, echo], by simp [fresh]⟩
  rw [run, ← State.acceptSample_eq]
  simp only [sampleArrival, accepted]

section AfterSample

variable {l : Link} {status : Byte} {now : Micros}

/-- A link that comes to SYNCING unconfirmed has the command it had, or else an internal IDENTIFY (R88). -/
theorem Link.identifying_unconfirmed (state : l.state = .syncing) (unconfirmed : l.confirmed = false) :
    l.identifying now =
      { l with
        slot := some (l.slot.getD ⟨.identify, .internal, false, now⟩),
        downstream := if l.slot = none then l.downstream ++ [.command .identify] else l.downstream } := by
  rcases l with ⟨_, _, _, _, _, _, slot, _, _, _, _, _, _, _⟩
  cases slot <;> simp_all [Link.identifying]

theorem Link.identifying_settled (h : l.state ≠ .syncing ∨ l.confirmed = true) : l.identifying now = l :=
  if_neg fun ⟨state, unconfirmed, _⟩ => h.elim (· state) fun confirmed => by simp [confirmed] at unconfirmed

/-- ABSENT or FAULTED goes to SYNCING (R87). -/
theorem Link.afterSample_joins (h : l.state = .absent ∨ l.state = .faulted) :
    l.afterSample status now =
      { l with
        state := .syncing, tally := 0, goodCount := 1, confirmed := false, silence := 0, accepted := satInc l.accepted,
        lastStatus := some status, slot := some (l.slot.getD ⟨.identify, .internal, false, now⟩),
        downstream := if l.slot = none then l.downstream ++ [.command .identify] else l.downstream } := by
  have moved : ({ l with accepted := satInc l.accepted } : Link).moved status =
      ({ l with accepted := satInc l.accepted } : Link).syncing := by
    obtain h | h := h <;> simp [Link.moved, Link.restarts, h]
  rw [Link.afterSample, moved]
  exact Link.identifying_unconfirmed rfl rfl

/-- The sixteenth good frame of a confirmed head brings its link UP (R87). -/
theorem Link.afterSample_up (state : l.state = .syncing) (confirmed : l.confirmed = true) (good : 15 ≤ l.goodCount) :
    l.afterSample status now =
      { l with
        state := .up, tally := 0, goodCount := 0, confirmed := false, silence := 0, accepted := satInc l.accepted,
        lastStatus := some status } := by
  have full : min (l.goodCount + 1) 16 = 16 := by omega
  have moved : ({ l with accepted := satInc l.accepted } : Link).moved status =
      ({ l with accepted := satInc l.accepted, goodCount := 16, silence := 0 } : Link).upped := by
    simp [Link.moved, Link.restarts, Link.tryUp, Config.bringUpFrames, state, confirmed, full]
  rw [Link.afterSample, moved]
  exact Link.identifying_settled (.inl (by simp [Link.upped]))

/-- An earlier good frame of a confirmed head is counted (R87). -/
theorem Link.afterSample_counts (state : l.state = .syncing) (confirmed : l.confirmed = true) (good : l.goodCount < 15) :
    l.afterSample status now =
      { l with
        goodCount := l.goodCount + 1, silence := 0, accepted := satInc l.accepted, lastStatus := some status } := by
  have few : min (l.goodCount + 1) 16 = l.goodCount + 1 := by omega
  have moved : ({ l with accepted := satInc l.accepted } : Link).moved status =
      { l with accepted := satInc l.accepted, goodCount := l.goodCount + 1, silence := 0 } := by
    simp [Link.moved, Link.restarts, Link.tryUp, Config.bringUpFrames, state, few]
    omega
  rw [Link.afterSample, moved]
  exact Link.identifying_settled (.inr confirmed)

/-- A good frame of an unconfirmed head is counted up to 16 (R87, R88). -/
theorem Link.afterSample_unconfirmed (state : l.state = .syncing) (unconfirmed : l.confirmed = false) :
    l.afterSample status now =
      { l with
        goodCount := min (l.goodCount + 1) 16, silence := 0, accepted := satInc l.accepted, lastStatus := some status,
        slot := some (l.slot.getD ⟨.identify, .internal, false, now⟩),
        downstream := if l.slot = none then l.downstream ++ [.command .identify] else l.downstream } := by
  have moved : ({ l with accepted := satInc l.accepted } : Link).moved status =
      { l with accepted := satInc l.accepted, goodCount := min (l.goodCount + 1) 16, silence := 0 } := by
    simp [Link.moved, Link.restarts, Link.tryUp, Config.bringUpFrames, state, unconfirmed]
  rw [Link.afterSample, moved]
  exact Link.identifying_unconfirmed state unconfirmed

/-- A good frame in UP takes one off the tally (R89). -/
theorem Link.afterSample_recovers (state : l.state = .up) (running : statusRestarted status = false) :
    l.afterSample status now =
      { l with tally := l.tally - 1, silence := 0, accepted := satInc l.accepted, lastStatus := some status } := by
  have moved : ({ l with accepted := satInc l.accepted } : Link).moved status =
      { l with accepted := satInc l.accepted, tally := l.tally - 1, silence := 0 } := by
    simp [Link.moved, Link.restarts, state, running]
  rw [Link.afterSample, moved]
  exact Link.identifying_settled (.inl (by simp [state]))

/-- A good frame in FOREIGN ends the silence (R93). -/
theorem Link.afterSample_foreign (state : l.state = .foreign) (running : statusRestarted status = false) :
    l.afterSample status now =
      { l with silence := 0, accepted := satInc l.accepted, lastStatus := some status } := by
  have moved : ({ l with accepted := satInc l.accepted } : Link).moved status =
      { l with accepted := satInc l.accepted, silence := 0 } := by
    simp [Link.moved, Link.restarts, state, running]
  rw [Link.afterSample, moved]
  exact Link.identifying_settled (.inl (by simp [state]))

theorem Link.restarts_iff (l : Link) (status : Byte) :
    l.restarts status = true ↔ (l.state = .up ∨ l.state = .foreign) ∧ statusRestarted status = true := by
  simp [Link.restarts]

/-- A restart ends the command in the slot and goes to SYNCING with an internal IDENTIFY (R90, R93, R95). -/
theorem Link.afterSample_restarts (h : l.restarts status = true) :
    l.afterSample status now =
      { l with
        state := .syncing, tally := 0, goodCount := 1, confirmed := false, silence := 0, accepted := satInc l.accepted,
        lastStatus := some status, slot := some ⟨.identify, .internal, false, now⟩,
        lastResult := l.resultAfter .linkLost .none, downstream := l.downstream ++ [.command .identify] } := by
  have moved : ({ l with accepted := satInc l.accepted } : Link).moved status =
      ({ l with
        accepted := satInc l.accepted, slot := none, lastResult := l.resultAfter .linkLost .none } : Link).syncing :=
    if_pos h
  rw [Link.afterSample, moved]
  exact Link.identifying_unconfirmed rfl rfl

end AfterSample

/-! ## The record of a frame at SEL (R45) -/

theorem Selector.complete_iff (sel : Selector) :
    sel.complete = true ↔ ∀ y : Head, sel.expected.get y = true → sel.frames.get y ≠ none := by
  have awaited (y : Head) : (!sel.missed y) = true ↔ (sel.expected.get y = true → sel.frames.get y ≠ none) := by
    cases h : sel.expected.get y <;> simp [Selector.missed, h, Option.isSome_iff_ne_none]
  rw [Selector.complete, Bool.and_eq_true, awaited, awaited]
  exact ⟨fun ⟨ha, hb⟩ y => by cases y <;> assumption, fun h => ⟨h .A, h .B⟩⟩

/-- A close with every frame recorded charges no miss (R50). -/
theorem Selector.chargeMisses_complete {sel : Selector} (h : sel.complete = true) (m : Pair Nat) :
    sel.chargeMisses m = m := by
  obtain ⟨ha, hb⟩ : sel.missed .A = false ∧ sel.missed .B = false := by simpa [Selector.complete] using h
  simp [Selector.chargeMisses, ha, hb]

/-- The hub with an accepted frame recorded against the current strobe (R45). -/
def State.recorded (x : Head) (f : SampleFrame) (s : State) : State :=
  { s with sel := { s.sel with frames := s.sel.frames.set x (some f) } }

section RecordFrame

variable (s : State) (x : Head) (f : SampleFrame)

/-- A frame of a window that is not OPEN, or that still awaits another, is recorded alone. -/
theorem State.recordFrame_awaiting
    (h : s.sel.window ≠ .opened
      ∨ ∃ y, s.sel.expected.get y = true ∧ (s.sel.frames.set x (some f)).get y = none) :
    s.recordFrame x f = s.recorded x f := by
  refine if_neg fun ⟨opened, complete⟩ => ?_
  obtain closed | ⟨y, expected, missing⟩ := h
  · exact closed opened
  · exact (Selector.complete_iff _).1 complete y expected missing

/-- The last awaited frame of an OPEN window closes it. -/
theorem State.recordFrame_last (opened : s.sel.window = .opened) (complete : (s.recorded x f).sel.complete = true) :
    s.recordFrame x f = (s.recorded x f).closeWindow :=
  if_pos ⟨opened, complete⟩

/-- A recorded frame closes its window or does not. -/
theorem State.recordFrame_cases :
    s.recordFrame x f = s.recorded x f ∨ s.recordFrame x f = (s.recorded x f).closeWindow := by
  unfold State.recordFrame
  dsimp only
  split
  · exact .inr rfl
  · exact .inl rfl

theorem State.recordFrame_links : (s.recordFrame x f).links = s.links := by
  obtain h | h := s.recordFrame_cases x f <;> simp [h, State.recorded]

theorem State.recordFrame_frames : (s.recordFrame x f).sel.frames = s.sel.frames.set x (some f) := by
  obtain h | h := s.recordFrame_cases x f <;> simp [h, State.recorded]

theorem State.recordFrame_completions : (s.recordFrame x f).arrivals.completions = s.arrivals.completions := by
  obtain h | h := s.recordFrame_cases x f <;> simp [h, State.recorded]

/-- A recorded frame takes no condition out of a set. -/
theorem State.recordFrame_keeps_cond {st : Strobe} {c : Cond} {q : Port} (current : s.sel.current = some st)
    (h : c ∈ s.cond.sets[q]) : c ∈ (s.recordFrame x f).cond.sets[q] := by
  obtain e | e := s.recordFrame_cases x f
  · rw [e]; exact h
  · rw [e, State.mem_closeWindow (s := s.recorded x f) current]
    exact .inl h

end RecordFrame

/-- HEAD_SENSOR joins every set by a new axis fault in UP, and nothing else does (R90). -/
theorem State.mem_sampled (s : State) (x : Head) (status : Byte) (c : Cond) (q : Port) :
    c ∈ (s.sampled x status).cond.sets[q] ↔
      c ∈ s.cond.sets[q]
        ∨ c = .headSensor x ∧ (s.links.get x).state = .up ∧ newFaults (s.links.get x).lastStatus status ≠ 0#6 := by
  rw [← Link.sensorFault_iff, State.sampled]
  cases (s.links.get x).sensorFault status with
  | false => simp [State.raiseIf]
  | true =>
    rw [State.raiseIf, if_pos rfl, State.mem_raise]
    tauto

/-- Settles O33: SEL's record leaves the links and the COMPLETIONS as the frame's own link made them, and the table is
`Link.afterSample`, row by row. -/
theorem acceptedSamplesMoveTheirLinkAlone : Obligations.AcceptedSamplesMoveTheirLinkAlone := by
  rintro x f st s l power current echo fresh rfl
  have own : ((s.sampled x f.status).recordFrame x f).links.get x =
      (s.links.get x).afterSample f.status s.tb.counter := by
    rw [State.recordFrame_links]
    exact Pair.get_set_same ..
  have other : ((s.sampled x f.status).recordFrame x f).links.get x.other = s.links.get x.other := by
    rw [State.recordFrame_links]
    exact Pair.get_set_other ..
  have completions : ((s.sampled x f.status).recordFrame x f).arrivals.completions =
      s.arrivals.completions ++ (s.links.get x).restartCompletion x f.status := by
    rw [State.recordFrame_completions]
    rfl
  refine ⟨_, exec_sample_accepted power current echo fresh, ?_⟩
  rw [own, State.recordFrame_frames, completions]
  refine ⟨Pair.get_set_same .., other, Pair.get_set_other .., Link.afterSample_joins, Link.afterSample_up,
    Link.afterSample_counts, Link.afterSample_unconfirmed, Link.afterSample_recovers, Link.afterSample_foreign,
    fun state restarted => Link.afterSample_restarts ((Link.restarts_iff ..).2 ⟨state, restarted⟩),
    fun state restarted => ?_, fun h => ?_, fun up fault q => ?_⟩
  · rw [Link.restartCompletion, if_pos ((Link.restarts_iff ..).2 ⟨state, restarted⟩)]
  · have kept : ¬(s.links.get x).restarts f.status = true := by
      rw [Link.restarts_iff]
      rintro ⟨state, restarted⟩
      obtain ⟨notUp, notForeign⟩ | running := h
      · exact state.elim notUp notForeign
      · simp [running] at restarted
    rw [Link.restartCompletion, if_neg kept, List.append_nil]
  · exact State.recordFrame_keeps_cond _ x f current ((s.mem_sampled x f.status _ q).2 (.inr ⟨rfl, up, fault⟩))

/-- Settles O34: the window stays as it is, or closes on the state that the frame's link has left. -/
theorem theLastAwaitedFrameClosesItsWindow : Obligations.TheLastAwaitedFrameClosesItsWindow := by
  rintro x f st s sel power current echo fresh hsel
  have links := (s.sampled x f.status).recordFrame_links x f
  have sampled (q : Port) (c : Cond) : c ∈ ((s.sampled x f.status).recorded x f).cond.sets[q] ↔ _ :=
    s.mem_sampled x f.status c q
  refine ⟨_, exec_sample_accepted power current echo fresh, fun awaiting => ?_, fun opened complete p hp => ?_, ?_⟩
  · subst hsel
    rw [State.recordFrame_awaiting (s.sampled x f.status) x f awaiting]
    exact ⟨rfl, rfl, sampled⟩
  · have reads : ({ s with sel := sel, links := ((s.sampled x f.status).recordFrame x f).links } : State).closing st =
        ((s.sampled x f.status).recorded x f).closing st := State.closing_congr st hsel links rfl rfl
    rw [reads] at hp ⊢
    subst hsel hp
    have allRecorded : ((s.sampled x f.status).recorded x f).sel.complete = true := (Selector.complete_iff _).2 complete
    have close := State.closeWindow_eq (s := (s.sampled x f.status).recorded x f) current
    have conditions (q : Port) (c : Cond) := State.mem_closeWindow (s := (s.sampled x f.status).recorded x f) current c q
    simp only [sampled, or_assoc] at conditions
    rw [close] at conditions
    rw [State.recordFrame_last (s.sampled x f.status) x f opened allRecorded, close,
      Selector.chargeMisses_complete allRecorded]
    exact ⟨rfl, rfl, rfl, current, rfl, rfl, rfl, rfl, rfl, rfl, conditions⟩
  · obtain e | e := (s.sampled x f.status).recordFrame_cases x f
    · rw [e]; rfl
    · rw [e, State.closeWindow_eq (s := (s.sampled x f.status).recorded x f) current]; rfl

end Sys2Proof.Machine

/-! SUPPORT. Proofs about calibration, records and the start: the rounding and the clipping of CAL, CAL_READ, the staging
requests, an IDENTIFY response in SYNCING, and the start-up load. -/

namespace Sys2Proof.Machine

-- One theorem at a time: the check gives every concurrent one a large stack of its own.
set_option Elab.async false

/-! ## The rounding of a stage (R72) -/

/-- A rounding keeps the sign and rounds the magnitude to the integer `m` whose unit holds it, shifted by a half. -/
theorem roundHalfAway_spec (n : Nat) (v : Int) :
    ∃ m : Nat, roundHalfAway n v = (if v < 0 then -(m : Int) else m) ∧ m * 2 ^ n ≤ v.natAbs + 2 ^ (n - 1)
      ∧ v.natAbs + 2 ^ (n - 1) < m * 2 ^ n + 2 ^ n :=
  ⟨(v.natAbs + 2 ^ (n - 1)) / 2 ^ n, rfl, Nat.div_mul_le_self .., Nat.lt_div_mul_add (by positivity)⟩

/-- Settles O40: with the unit as two halves, both bounds are those of the division; the sums are the definitions. -/
theorem eachStageRoundsItsWholeSumOnce : Obligations.EachStageRoundsItsWholeSumOnce := by
  refine ⟨fun n v hn => ?_, fun m bias raw => ⟨rfl, rfl, rfl⟩, fun m trim u => ⟨rfl, rfl, rfl⟩⟩
  obtain ⟨m, rounded, low, high⟩ := roundHalfAway_spec n v
  have unit : 2 ^ n = 2 * 2 ^ (n - 1) := (Nat.two_pow_pred_mul_two hn).symm.trans (Nat.mul_comm ..)
  have unitInt : (2 : Int) ^ n = ((2 ^ n : Nat) : Int) := by push_cast; rfl
  have product : roundHalfAway n v * 2 ^ n = if v < 0 then -((m * 2 ^ n : Nat) : Int) else (m * 2 ^ n : Nat) := by
    rw [rounded, unitInt]
    split
    · push_cast; ring
    · push_cast; ring
  rw [product]
  generalize m * 2 ^ n = r at *
  have half : 0 < 2 ^ (n - 1) := by positivity
  split <;> omega

/-! ## Clipping (R74) -/

theorem clip_bounds (v : Int) : -2147483647 ≤ clip v ∧ clip v ≤ 2147483647 := by
  unfold clip clipLimit
  omega

/-- A clipped value is published as it stands: its word holds it (R74). -/
theorem toInt_ofInt_clip (v : Int) : (BitVec.ofInt 32 (clip v)).toInt = clip v := by
  obtain ⟨low, high⟩ := clip_bounds v
  rw [BitVec.toInt_ofInt]
  exact Int.bmod_eq_of_le (by omega) (by omega)

/-- The published value of an exact result, in the three ranges of R74. -/
theorem clip_cases (v : Int) :
    (2147483647 < v → clip v = 2147483647) ∧ (v < -2147483647 → clip v = -2147483647)
      ∧ (-2147483647 ≤ v → v ≤ 2147483647 → clip v = v) := by
  unfold clip clipLimit
  omega

theorem clipped_iff (v : Int) : clipped v = true ↔ 2147483647 < v ∨ v < -2147483647 := by
  unfold clipped clip clipLimit
  rw [decide_eq_true_iff]
  omega

/-- Settles O41: every value is `clip` of its stage's result, and the indication asks `clipped` of all six. -/
theorem calibratedValuesAreClippedToTheirRange : Obligations.CalibratedValuesAreClippedToTheirRange := by
  rintro f u frame g a rfl rfl
  refine ⟨?_, ?_⟩
  · simp only [List.forall_mem_cons, calibrate, Triple.map, toInt_ofInt_clip]
    exact ⟨clip_cases _, clip_cases _, clip_cases _, clip_cases _, clip_cases _, clip_cases _, by simp⟩
  · simp only [← clipped_iff]
    exact List.any_eq_true

/-! ## CAL_READ (R76 to R78) -/

theorem calFormOf_eq_none {form : Byte} (h : 2 < form.toNat) : calFormOf form = none := by
  unfold calFormOf
  split_ifs <;> simp_all

/-- A form that does not exist is refused for either head (R76). -/
theorem calRead_outOfRange {p : Port} {head form : Byte} {s : State}
    (h : headOf head = none ∨ calFormOf form = none) : calRead p head form s = answer s .outOfRange := by
  unfold calRead
  obtain h | h := h
  · rw [h]
  · rw [h]
    cases headOf head <;> rfl

theorem ConfigUnit.holds_eq_false_iff (c : ConfigUnit) (p : Port) :
    c.holds p = false ↔ ∀ l, c.lease = some l → l.holder ≠ p := by
  unfold ConfigUnit.holds
  cases c.lease <;> simp

section CalRead

variable {p : Port} {head : Byte} {x : Head} {s : State}

theorem calRead_factory (hx : headOf head = some x) :
    calRead p head 0#8 s =
      answer s .ok (.calFactory x (s.store.factoryValidity.get x = .valid) (s.store.factoryAsRead x)) := by
  simp only [calRead, hx, show calFormOf 0#8 = some .factory from rfl]

theorem calRead_active (hx : headOf head = some x) :
    calRead p head 1#8 s = answer s .ok (.calUser x s.cfg.epoch (s.cfg.active.user.get x)) := by
  simp only [calRead, hx, show calFormOf 1#8 = some .active from rfl]

theorem calRead_staged {l : Lease} (hx : headOf head = some x) (hl : s.cfg.lease = some l) (holder : l.holder = p) :
    calRead p head 2#8 s = answer s .ok (.calUser x s.cfg.epoch (l.staged.user.get x)) := by
  simp only [calRead, hx, show calFormOf 2#8 = some .staged from rfl, hl, if_pos holder]

theorem calRead_notHolder (hx : headOf head = some x) (other : s.cfg.holds p = false) :
    calRead p head 2#8 s = answer s .notHolder := by
  simp only [calRead, hx, show calFormOf 2#8 = some .staged from rfl]
  cases hl : s.cfg.lease with
  | none => rfl
  | some l => exact if_neg ((s.cfg.holds_eq_false_iff p).1 other l hl)

end CalRead

/-- Settles O42: each case of `calRead` reads what the end of the transaction has left alone. -/
theorem calReadReturnsTheRecordNamed : Obligations.CalReadReturnsTheRecordNamed := by
  intro r head form s ready
  have reported {result : Result} {payload : Payload}
      (h : calRead r.port head form (s.served r .calRead) = answer (s.served r .calRead) result payload) :
      exec (.calRead r head form) s = .next (s.reported r .calRead result payload) :=
    requestEnd_reported ready h
  refine ⟨fun bad => reported (calRead_outOfRange (bad.imp_right calFormOf_eq_none)), fun x hx => ⟨?_, ?_, ?_⟩⟩
  · rintro rfl
    exact reported (by rw [calRead_factory hx, State.served_store]; rfl)
  · rintro rfl
    exact reported (by rw [calRead_active hx, State.served_cfg])
  · rintro rfl
    refine ⟨fun l hl holder => reported ?_, fun other => reported ?_⟩
    · rw [calRead_staged hx (by rwa [State.served_cfg]) holder, State.served_cfg]
    · exact calRead_notHolder hx (by rwa [State.served_cfg])

/-! ## Staging (R131 to R135) -/

theorem asHolder_notHolder {p : Port} {s : State} (f : Lease → Answer) (other : s.cfg.holds p = false) :
    asHolder p s f = answer s .notHolder := by
  unfold asHolder
  cases hl : s.cfg.lease with
  | none => rfl
  | some l => exact if_neg ((s.cfg.holds_eq_false_iff p).1 other l hl)

theorem asHolder_holder {p : Port} {s : State} {l : Lease} (f : Lease → Answer) (hl : s.cfg.lease = some l)
    (holder : l.holder = p) : asHolder p s f = f l := by
  simp only [asHolder, hl, if_pos holder]

/-- The staging requests are the holder's (R131). -/
theorem exec_staging {c : Instr} {r : Req} {k : RequestKind} {payload : List Byte}
    (hc : requestOf c = some (r, k, payload))
    (hk : k ∈ [.stageCal, .stageSource, .stageThresholds, .stageTiming, .stageRead, .stageDiscard]) :
    ∃ f : State → Lease → Answer, ∀ s, exec c s = requestEnd r k (fun t => asHolder r.port t (f t)) s := by
  cases c with
  | stageCal | stageSource | stageThresholds | stageTiming | stageRead | stageDiscard =>
    cases hc
    exact ⟨_, fun _ => rfl⟩
  | _ =>
    cases hc <;> simp at hk

/-- A holder's request that stages an image is answered OK with the active epoch (R131). -/
theorem requestEnd_staged {r : Req} {k : RequestKind} {carry : State → Answer} {s : State} {l : Lease} {image : Image}
    (ready : Ready r k s = true) (h : carry (s.served r k) = (s.served r k).stage l image) :
    requestEnd r k carry s =
      .next (({ s.served r k with
          cfg := { s.cfg with lease := some { l with staged := image } } } : State).replied
        r k .ok (.epoch s.cfg.epoch)) := by
  refine requestEnd_answer ready ?_ rfl
  rw [h, State.stage, State.served_cfg]

/-! ### Fields and their codes -/

theorem headOf_eq_none {head : Byte} (h : 1 < head.toNat) : headOf head = none := by
  unfold headOf
  split_ifs <;> simp_all

theorem calGroupOf_eq_none {group : Byte} (h : 3 < group.toNat) : calGroupOf group = none := by
  unfold calGroupOf
  split_ifs <;> simp_all

theorem SourceMode.ofCode_eq_none {mode : Byte} (h : 3 < mode.toNat) : SourceMode.ofCode mode = none := by
  unfold SourceMode.ofCode
  split_ifs <;> simp_all

theorem SourceMode.ofCode_eq_some {mode : Byte} {m : SourceMode}
    (h : (mode, m) ∈ [(0#8, SourceMode.aOnly), (1#8, .bOnly), (2#8, .preferA), (3#8, .preferB)]) :
    SourceMode.ofCode mode = some m := by
  simp only [List.mem_cons, Prod.mk.injEq, List.not_mem_nil, or_false] at h
  obtain ⟨rfl, rfl⟩ | ⟨rfl, rfl⟩ | ⟨rfl, rfl⟩ | ⟨rfl, rfl⟩ := h <;> rfl

theorem SyncMode.ofCode_eq_none {mode : Byte} (h : 2 < mode.toNat) : SyncMode.ofCode mode = none := by
  unfold SyncMode.ofCode
  split_ifs <;> simp_all

theorem SyncMode.ofCode_eq_some {mode : Byte} {m : SyncMode}
    (h : (mode, m) ∈ [(0#8, SyncMode.free), (1#8, .direct), (2#8, .scaled)]) : SyncMode.ofCode mode = some m := by
  simp only [List.mem_cons, Prod.mk.injEq, List.not_mem_nil, or_false] at h
  obtain ⟨rfl, rfl⟩ | ⟨rfl, rfl⟩ | ⟨rfl, rfl⟩ := h <;> rfl

theorem Rate.ofCode_eq_none {rate : BitVec 16} (h : rate.toNat ∉ [500, 1000, 2000, 4000]) : Rate.ofCode rate = none := by
  unfold Rate.ofCode
  split_ifs <;> simp_all

theorem Rate.ofCode_isSome {rate : BitVec 16} (h : rate.toNat ∈ [500, 1000, 2000, 4000]) :
    ∃ g, Rate.ofCode rate = some g := by
  have codes : rate = 500#16 ∨ rate = 1000#16 ∨ rate = 2000#16 ∨ rate = 4000#16 := by
    simp only [List.mem_cons, List.not_mem_nil, or_false] at h
    bv_omega
  obtain rfl | rfl | rfl | rfl := codes <;> exact ⟨_, rfl⟩

theorem Rate.ofCode_eq_some {rate : BitVec 16} {g : Rate}
    (h : (rate, g) ∈ [(500#16, Rate.r500), (1000#16, .r1000), (2000#16, .r2000), (4000#16, .r4000)]) :
    Rate.ofCode rate = some g := by
  simp only [List.mem_cons, Prod.mk.injEq, List.not_mem_nil, or_false] at h
  obtain ⟨rfl, rfl⟩ | ⟨rfl, rfl⟩ | ⟨rfl, rfl⟩ | ⟨rfl, rfl⟩ := h <;> rfl

/-! ### The first value out of range (R132) -/

section FirstBad

variable {g : CalGroup} {values : Mat3 (BitVec 32)}

theorem CalGroup.firstBad_eq_none (h : ∀ w ∈ g.examined values, w.toInt.natAbs ≤ g.limit) :
    g.firstBad values = none := by
  simpa [CalGroup.firstBad, within] using h

theorem CalGroup.firstBad_eq_some {before after : List (BitVec 32)} {w : BitVec 32}
    (split : g.examined values = before ++ w :: after) (good : ∀ b ∈ before, b.toInt.natAbs ≤ g.limit)
    (bad : g.limit < w.toInt.natAbs) : g.firstBad values = some (before.length + 3) := by
  have found : (g.examined values).findIdx? (fun v => ¬ within g.limit v) = some before.length := by
    rw [split, List.findIdx?_append, List.findIdx?_eq_none_iff.2 fun b hb => by simpa [within] using good b hb]
    simp [List.findIdx?_cons, within, bad]
  rw [CalGroup.firstBad, found]
  rfl

end FirstBad

/-! ### What each request answers its holder -/

section Holder

variable {p : Port} {s : State} {l : Lease} (hl : s.cfg.lease = some l) (holder : l.holder = p)
include hl holder

section StageCal

variable {head group : Byte} {values : Mat3 (BitVec 32)} {x : Head} {g : CalGroup}

theorem stageCal_badHead (bad : 1 < head.toNat) : stageCal p head group values s = badField s 1 := by
  simp only [stageCal, asHolder_holder _ hl holder, headOf_eq_none bad]

theorem stageCal_badGroup (hx : headOf head = some x) (bad : 3 < group.toNat) :
    stageCal p head group values s = badField s 2 := by
  simp only [stageCal, asHolder_holder _ hl holder, hx, calGroupOf_eq_none bad]

theorem stageCal_badValue {index : Nat} (hx : headOf head = some x) (hg : calGroupOf group = some g)
    (bad : g.firstBad values = some index) : stageCal p head group values s = badField s index := by
  simp only [stageCal, asHolder_holder _ hl holder, hx, hg, bad]

theorem stageCal_staged (hx : headOf head = some x) (hg : calGroupOf group = some g)
    (good : g.firstBad values = none) :
    stageCal p head group values s =
      s.stage l { l.staged with user := l.staged.user.set x ((l.staged.user.get x).withGroup g values) } := by
  simp only [stageCal, asHolder_holder _ hl holder, hx, hg, good]

end StageCal

theorem stageSource_badMode {mode : Byte} {holdOff : BitVec 16} (bad : 3 < mode.toNat) :
    stageSource p mode holdOff s = badField s 1 := by
  simp only [stageSource, asHolder_holder _ hl holder, SourceMode.ofCode_eq_none bad]

theorem stageSource_staged {mode : Byte} {holdOff : BitVec 16} {m : SourceMode} (hm : SourceMode.ofCode mode = some m) :
    stageSource p mode holdOff s = s.stage l { l.staged with mode := m, holdOff := holdOff } := by
  simp only [stageSource, asHolder_holder _ hl holder, hm]

section StageThresholds

variable {gyro accel : BitVec 32}

theorem stageThresholds_badGyro (bad : thresholdLimit < gyro.toNat) : stageThresholds p gyro accel s = badField s 1 := by
  simp only [stageThresholds, asHolder_holder _ hl holder, if_pos bad]

theorem stageThresholds_badAccel (good : gyro.toNat ≤ thresholdLimit) (bad : thresholdLimit < accel.toNat) :
    stageThresholds p gyro accel s = badField s 2 := by
  simp only [stageThresholds, asHolder_holder _ hl holder, if_neg (not_lt.2 good), if_pos bad]

theorem stageThresholds_staged (hg : gyro.toNat ≤ thresholdLimit) (ha : accel.toNat ≤ thresholdLimit) :
    stageThresholds p gyro accel s = s.stage l { l.staged with gyroThreshold := gyro, accelThreshold := accel } := by
  simp only [stageThresholds, asHolder_holder _ hl holder, if_neg (not_lt.2 hg), if_neg (not_lt.2 ha)]

end StageThresholds

section StageTiming

variable {rate scale : BitVec 16} {mode : Byte} {g : Rate}

theorem stageTiming_badRate (bad : Rate.ofCode rate = none) : stageTiming p rate mode scale s = badField s 1 := by
  simp only [stageTiming, asHolder_holder _ hl holder, bad]

theorem stageTiming_badMode (hg : Rate.ofCode rate = some g) (bad : 2 < mode.toNat) :
    stageTiming p rate mode scale s = badField s 2 := by
  simp only [stageTiming, asHolder_holder _ hl holder, hg, SyncMode.ofCode_eq_none bad]

theorem stageTiming_staged {m : SyncMode} (hg : Rate.ofCode rate = some g) (hm : SyncMode.ofCode mode = some m) :
    stageTiming p rate mode scale s = s.stage l { l.staged with timing := ⟨g, m, scale⟩ } := by
  simp only [stageTiming, asHolder_holder _ hl holder, hg, hm]

end StageTiming

end Holder

/-- Settles O53: `asHolder` decides the first part; in the second each request is read off its case of CFG's function. -/
theorem stagingChangesItsItemsOfTheStagedImageAlone : Obligations.StagingChangesItsItemsOfTheStagedImageAlone := by
  refine ⟨fun r s c k payload hc hk ready other => ?_, fun r s l staged hl holder hstaged => ?_⟩
  · obtain ⟨f, run⟩ := exec_staging hc hk
    rw [run]
    exact requestEnd_reported ready (asHolder_notHolder _ (by rwa [State.served_cfg]))
  have held (k : RequestKind) : (s.served r k).cfg.lease = some l := by rwa [State.served_cfg]
  have refused {k : RequestKind} {carry : State → Answer} {index : Nat} (ready : Ready r k s = true)
      (h : carry (s.served r k) = badField (s.served r k) index) :
      requestEnd r k carry s = .next (s.reported r k .outOfRange (.fieldIndex index)) :=
    requestEnd_reported ready h
  have stages {k : RequestKind} {carry : State → Answer} {image : Image} (ready : Ready r k s = true)
      (h : carry (s.served r k) = (s.served r k).stage l image) :
      requestEnd r k carry s = .next (staged k image) := by
    rw [hstaged]
    exact requestEnd_staged ready h
  refine ⟨fun head group v ready => ?_, fun mode h ready => ?_, fun gyro accel ready => ?_,
    fun rate mode scale ready => ?_, fun ready => ?_, fun ready => ?_⟩
  · have own := held .stageCal
    refine ⟨fun bad => refused ready (stageCal_badHead own holder bad), fun x hx =>
      ⟨fun bad => refused ready (stageCal_badGroup own holder hx bad), fun limit values u selected => ?_⟩⟩
    obtain ⟨g, hg, rfl, rfl, rfl⟩ : ∃ g : CalGroup, calGroupOf group = some g ∧ g.limit = limit
        ∧ g.examined v = values ∧ (l.staged.user.get x).withGroup g v = u := by
      obtain ⟨rfl, rfl, rfl, rfl⟩ | ⟨rfl, rfl, rfl, rfl⟩ | ⟨rfl, rfl, rfl, rfl⟩ | ⟨rfl, rfl, rfl, rfl⟩ := selected
      · exact ⟨.gyroBias, rfl, rfl, rfl, rfl⟩
      · exact ⟨.accelBias, rfl, rfl, rfl, rfl⟩
      · exact ⟨.gyroMatrix, rfl, rfl, rfl, rfl⟩
      · exact ⟨.accelMatrix, rfl, rfl, rfl, rfl⟩
    exact ⟨fun good => stages ready (stageCal_staged own holder hx hg (CalGroup.firstBad_eq_none good)),
      fun before w after split good bad =>
        refused ready (stageCal_badValue own holder hx hg (CalGroup.firstBad_eq_some split good bad))⟩
  · have own := held .stageSource
    exact ⟨fun bad => refused ready (stageSource_badMode own holder bad),
      fun m hm => stages ready (stageSource_staged own holder (SourceMode.ofCode_eq_some hm))⟩
  · have own := held .stageThresholds
    exact ⟨fun bad => refused ready (stageThresholds_badGyro own holder bad),
      fun good bad => refused ready (stageThresholds_badAccel own holder good bad),
      fun hg ha => stages ready (stageThresholds_staged own holder hg ha)⟩
  · have own := held .stageTiming
    refine ⟨fun bad => refused ready (stageTiming_badRate own holder (Rate.ofCode_eq_none bad)), fun good bad => ?_,
      fun g m hg hm => stages ready (stageTiming_staged own holder (Rate.ofCode_eq_some hg) (SyncMode.ofCode_eq_some hm))⟩
    obtain ⟨g, hg⟩ := Rate.ofCode_isSome good
    exact refused ready (stageTiming_badMode own holder hg bad)
  · refine requestEnd_reported (carry := stageRead r.port) ready ?_
    rw [stageRead, asHolder_holder _ (held _) holder, State.served_cfg]
  · refine stages (carry := stageDiscard r.port) ready ?_
    rw [stageDiscard, asHolder_holder _ (held _) holder, State.served_cfg]

/-! ## An IDENTIFY response in SYNCING (R68, R88) -/

/-- The identity is confirmed unless a valid factory record names another serial (R68). -/
theorem Store.confirms_iff (st : Store) (x : Head) (serial : BitVec 32) :
    st.confirms x serial = true ↔
      st.factoryValidity.get x ≠ .valid ∨ (st.factoryAsRead x).serial = 0#32 ∨ (st.factoryAsRead x).serial = serial := by
  unfold Store.confirms
  split <;> simp_all

theorem State.identify_confirmed {x : Head} {serial : BitVec 32} {s : State}
    (state : (s.links.get x).state = .syncing) (h : s.store.confirms x serial = true) :
    s.identify x serial = s.modifyLink x fun l => { l with confirmed := true }.tryUp := by
  rw [State.identify, if_pos state, if_pos h]

theorem State.identify_foreign {x : Head} {serial : BitVec 32} {s : State}
    (state : (s.links.get x).state = .syncing) (h : ¬s.store.confirms x serial = true) :
    s.identify x serial = s.enterForeign x := by
  rw [State.identify, if_pos state, if_neg h]

/-- The link as an IDENTIFY response leaves it before the comparison (R84, R95, R99). -/
def Link.answered (l : Link) (serial : BitVec 32) (model : BitVec 16) : Link :=
  { l with
    accepted := satInc l.accepted, slot := none, lastResult := l.resultAfter .done (.identity serial model) }

/-- The hub with the command of the link ended DONE, its COMPLETION sent to a host that waits (R95, R99). -/
def State.answered (x : Head) (serial : BitVec 32) (model : BitVec 16) (s : State) : State :=
  { s with
    links := s.links.set x ((s.links.get x).answered serial model),
    arrivals :=
      { s.arrivals with
        completions := s.arrivals.completions ++ (s.links.get x).completionOf x .done (.identity serial model) } }

theorem State.answered_state (x : Head) (serial : BitVec 32) (model : BitVec 16) (s : State) :
    ((s.answered x serial model).links.get x).state = (s.links.get x).state := by
  rw [State.answered, Pair.get_set_same, Link.answered]

theorem State.acceptResponse_identify (x : Head) (serial : BitVec 32) (model : BitVec 16) (s : State) :
    s.acceptResponse x (.identify serial model) = (s.answered x serial model).identify x serial := by
  simp only [State.acceptResponse, State.endCommand_eq, State.modifyLink, Pair.get_set_same, Pair.set_set]
  rfl

/-- A RESPONSE of the kind of the command in the slot is that command's (R83, R95). -/
theorem responseArrival_awaited {x : Head} {body : ResponseBody} {s : State} {c : Command}
    (slot : (s.links.get x).slot = some c) (kind : c.kind = responseKind body) :
    responseArrival x body s = (s.acceptResponse x body).keepIdentifying x := by
  have awaited : (s.links.get x).slot.map Command.kind = some (responseKind body) := by rw [slot, ← kind]; rfl
  rw [responseArrival, if_pos awaited]

/-- A link outside SYNCING, or confirmed, is given no IDENTIFY (R88). -/
theorem State.keepIdentifying_settled {x : Head} {s : State}
    (h : (s.links.get x).state ≠ .syncing ∨ (s.links.get x).confirmed = true) : s.keepIdentifying x = s := by
  rw [State.keepIdentifying_eq, State.modifyLink, Link.identifying_settled h, Pair.set_get]

/-- A link that is confirmed with a finished run goes UP (R87). -/
theorem Link.confirmed_finished (l : Link) (state : l.state = .syncing) (finished : l.goodCount = 16) :
    ({ l with confirmed := true } : Link).tryUp = l.upped :=
  if_pos ⟨state, finished, rfl⟩

theorem Link.confirmed_unfinished (l : Link) (unfinished : l.goodCount ≠ 16) :
    ({ l with confirmed := true } : Link).tryUp = { l with confirmed := true } :=
  if_neg fun ⟨_, finished, _⟩ => unfinished finished

/-- A confirmed link is UP, or stays SYNCING and confirmed. -/
theorem Link.tryUp_settled {l : Link} (confirmed : l.confirmed = true) :
    l.tryUp.state ≠ .syncing ∨ l.tryUp.confirmed = true := by
  unfold Link.tryUp
  split
  · exact .inl nofun
  · exact .inr confirmed

section Answered

variable {x : Head} {serial : BitVec 32} {model : BitVec 16} {s : State} {c : Command} (power : s.power = .running)
  (slot : (s.links.get x).slot = some c) (kind : c.kind = .identify)
include power slot kind

/-- An IDENTIFY response in SYNCING ends its command; what follows is the comparison. -/
theorem exec_response_identify :
    exec (.response x (.identify serial model)) s =
      .next (((s.answered x serial model).identify x serial).keepIdentifying x) := by
  have run : exec (.response x (.identify serial model)) s = .next (responseArrival x (.identify serial model) s) :=
    whileRunning_running (responseArrival x (.identify serial model)) s power
  rw [run, responseArrival_awaited (body := .identify serial model) slot kind, State.acceptResponse_identify]

variable (state : (s.links.get x).state = .syncing)
include state

/-- The identity is confirmed, and a finished run goes UP (R87, R88). -/
theorem exec_response_confirmed (h : s.store.confirms x serial = true) :
    exec (.response x (.identify serial model)) s =
      .next ((s.answered x serial model).modifyLink x fun l => { l with confirmed := true }.tryUp) := by
  have syncing : ((s.answered x serial model).links.get x).state = .syncing := s.answered_state x serial model ▸ state
  rw [exec_response_identify power slot kind, State.identify_confirmed syncing h, State.keepIdentifying_settled]
  rw [State.modifyLink_links, Pair.get_set_same]
  exact Link.tryUp_settled rfl

/-- The head is found foreign (R88). -/
theorem exec_response_foreign (h : ¬s.store.confirms x serial = true) :
    exec (.response x (.identify serial model)) s = .next ((s.answered x serial model).enterForeign x) := by
  have syncing : ((s.answered x serial model).links.get x).state = .syncing := s.answered_state x serial model ▸ state
  rw [exec_response_identify power slot kind, State.identify_foreign syncing h, State.keepIdentifying_settled]
  rw [State.enterForeign, State.raise_links, State.modifyLink_links, Pair.get_set_same]
  exact .inl nofun

end Answered

/-- Settles O37: the two outcomes of the comparison, each read off the state it leaves. -/
theorem anIdentifyResponseIsComparedInSyncing : Obligations.AnIdentifyResponseIsComparedInSyncing := by
  rintro x serial model s l c power rfl syncing slot kind
  by_cases confirms : s.store.confirms x serial = true
  · have known (valid : s.store.factoryValidity.get x = .valid) (named : (s.store.factoryAsRead x).serial ≠ 0#32)
        (other : (s.store.factoryAsRead x).serial ≠ serial) : False :=
      ((s.store.confirms_iff x serial).1 confirms).elim (· valid) (·.elim named other)
    refine ⟨_, exec_response_confirmed power slot kind syncing confirms, ?_⟩
    rw [State.modifyLink_links, Pair.get_set_same, Pair.get_set_other, State.answered, Pair.get_set_same,
      Pair.get_set_other]
    by_cases finished : (s.links.get x).goodCount = 16
    · rw [Link.confirmed_finished ((s.links.get x).answered serial model) syncing finished]
      exact ⟨rfl, rfl, rfl, rfl, rfl, fun _ => ⟨rfl, fun _ => ⟨rfl, rfl, rfl, rfl⟩, fun h => absurd finished h⟩,
        fun valid named other => (known valid named other).elim⟩
    · rw [Link.confirmed_unfinished ((s.links.get x).answered serial model) finished]
      exact ⟨rfl, rfl, rfl, rfl, rfl, fun _ => ⟨rfl, fun h => absurd h finished, fun _ => ⟨syncing, rfl, rfl⟩⟩,
        fun valid named other => (known valid named other).elim⟩
  · have foreign := mt (s.store.confirms_iff x serial).2 confirms
    refine ⟨_, exec_response_foreign power slot kind syncing confirms, ?_⟩
    rw [State.enterForeign, State.raise_links, State.modifyLink_links, Pair.get_set_same, Pair.get_set_other,
      State.answered, Pair.get_set_same, Pair.get_set_other]
    exact ⟨rfl, rfl, rfl, rfl, rfl, fun h => absurd h foreign,
      fun _ _ _ => ⟨rfl, rfl, rfl, fun p => (State.mem_raise ..).2 (.inl rfl)⟩⟩

/-! ## What the load chooses (R145) -/

section Choose

variable {m : Medium} {i j : Image}

/-- The generation of a VALID slot is the one it holds (R143). -/
theorem Medium.validGeneration_of_image {t : Slot} (h : m.image t = some i) :
    m.validGeneration t = (m.slots[t].generation.getD 0#32).toNat := by
  have written : m.writes[t] ≠ 0#32 := by
    intro blank
    simp only [Medium.image, blank, slotImage] at h
    split at h <;> simp_all
  have valid : classifySlot m.slots[t] m.writes[t] = .valid := by
    rw [classifySlot, if_neg written, if_pos]
    exact Option.isSome_of_mem h
  rw [Medium.validGeneration, slotGenerationOf, if_pos valid]

/-- A slot that was never written has no image (R141). -/
theorem Medium.image_of_blank {t : Slot} (blank : m.writes[t] = 0#32) : m.image t = none := by
  rw [Medium.image, blank, slotImage]
  split <;> simp

/-- Of two VALID slots the one with the larger generation is loaded, slot 0 when they are equal (R145). -/
theorem Medium.choose_newer (h0 : m.image 0 = some i) (h1 : m.image 1 = some j) :
    m.choose = if m.validGeneration 0 < m.validGeneration 1 then ⟨j, some 1, .loaded⟩ else ⟨i, some 0, .loaded⟩ := by
  rw [Medium.validGeneration_of_image h0, Medium.validGeneration_of_image h1]
  have h0 : slotImage m.slots[0] m.writes[0] = some i := h0
  have h1 : slotImage m.slots[1] m.writes[1] = some j := h1
  simp only [Medium.choose, h0, h1]
  rfl

theorem Medium.choose_first (h0 : m.image 0 = some i) (h1 : m.image 1 = none) :
    m.choose = ⟨i, some 0, .loaded⟩ := by
  have h0 : slotImage m.slots[0] m.writes[0] = some i := h0
  have h1 : slotImage m.slots[1] m.writes[1] = none := h1
  simp only [Medium.choose, h0, h1]

theorem Medium.choose_second (h0 : m.image 0 = none) (h1 : m.image 1 = some j) :
    m.choose = ⟨j, some 1, .loaded⟩ := by
  have h0 : slotImage m.slots[0] m.writes[0] = none := h0
  have h1 : slotImage m.slots[1] m.writes[1] = some j := h1
  simp only [Medium.choose, h0, h1]

/-- Without a VALID slot the default image stands; the outcome tells two BLANK slots from a corrupt one (R145). -/
theorem Medium.choose_default (h0 : m.image 0 = none) (h1 : m.image 1 = none) :
    m.choose =
      ⟨Image.default, none, if m.writes[0] = 0#32 ∧ m.writes[1] = 0#32 then .blank else .corrupt⟩ := by
  have h0 : slotImage m.slots[0] m.writes[0] = none := h0
  have h1 : slotImage m.slots[1] m.writes[1] = none := h1
  simp only [Medium.choose, h0, h1]
  split <;> rfl

end Choose

/-! ## The end of the load (R105, R145) -/

theorem State.mem_raiseIf (s : State) (b : Bool) (c d : Cond) (p : Port) :
    d ∈ (s.raiseIf b c).cond.sets[p] ↔ d ∈ s.cond.sets[p] ∨ d = c ∧ b = true := by
  cases b with
  | false => simp [State.raiseIf]
  | true => rw [State.raiseIf, if_pos rfl, State.mem_raise, or_comm, and_iff_left rfl]

/-- The load raises the level conditions that are in force, and no other (R67, R145). -/
theorem State.mem_raiseLoadConditions (s : State) (p : Port) (c : Cond) :
    c ∈ s.raiseLoadConditions.cond.sets[p] ↔
      c ∈ s.cond.sets[p] ∨ (c = .storeBlank ∧ s.store.loadOutcome = .blank)
        ∨ (c = .storeCorrupt ∧ s.store.loadOutcome = .corrupt)
        ∨ ∃ x : Head, c = .factoryCorrupt x ∧ s.store.factoryValidity.get x = .corrupt := by
  have heads : (∃ x : Head, c = .factoryCorrupt x ∧ s.store.factoryValidity.get x = .corrupt) ↔
      (c = .factoryCorrupt .A ∧ s.store.factoryValidity.get .A = .corrupt)
        ∨ (c = .factoryCorrupt .B ∧ s.store.factoryValidity.get .B = .corrupt) :=
    ⟨fun ⟨x, h⟩ => by cases x <;> simp [h], fun h => h.elim (⟨_, ·⟩) (⟨_, ·⟩)⟩
  simp only [State.raiseLoadConditions, State.mem_raiseIf, Store.factoryCorrupt, decide_eq_true_eq, heads, or_assoc]

/-- The load conditions write the condition sets alone. -/
theorem State.raiseLoadConditions_eq (s : State) :
    s.raiseLoadConditions = { s with cond := s.raiseLoadConditions.cond } := by
  simp only [State.raiseLoadConditions, State.raiseIf_eq]

/-- TB started under the timing items of the placed image, before strobe 0 (R105). -/
def State.started (timing : Timing) (s : State) : State :=
  { s with tb := { s.tb with strobing := true, timing := some timing, refTime := some s.tb.counter } }

theorem State.startStrobing_direct {s : State} {timing : Timing} (h : timing.mode = .direct) :
    s.startStrobing timing = s.started timing := by
  simp only [State.startStrobing, h]
  rfl

/-- In FREE and SCALED strobe 0 goes out at once (R105). -/
theorem State.startStrobing_other {s : State} {timing : Timing} (h : timing.mode ≠ .direct) :
    s.startStrobing timing = (s.started timing).issueStrobe s.tb.counter (timing.mode = .scaled) none := by
  cases hm : timing.mode with
  | direct => exact absurd hm h
  | free | scaled =>
    simp only [State.startStrobing, hm]
    rfl

/-- The hub with the choice placed and STORE set as found, before the conditions and the start (R145). -/
def State.placed (s : State) : State :=
  { s with
    cfg := { s.cfg with active := s.medium.choose.image, epoch := 0#16 }, store := s.store.loadedFrom s.medium }

theorem exec_startUpLoad {s : State} (power : s.power = .running) (starting : s.store.device = .starting) :
    exec .startUpLoad s =
      .next (s.placed.raiseLoadConditions.startStrobing s.medium.choose.image.timing) := by
  have run : exec .startUpLoad s = .next (startUpLoad s) := whileRunning_running startUpLoad s power
  rw [run, startUpLoad, if_pos starting]
  rfl

/-- Settles O6: the table of R145 by the images of the slots, and the end of the load by its three parts. -/
theorem startUpLoadPlacesTheChosenImage : Obligations.StartUpLoadPlacesTheChosenImage := by
  refine ⟨fun m => ⟨fun i j => Medium.choose_newer, fun i => Medium.choose_first, fun j => Medium.choose_second,
    fun w0 w1 => ?_, fun h0 h1 written => ?_⟩, fun s power starting => ?_⟩
  · rw [Medium.choose_default (Medium.image_of_blank w0) (Medium.image_of_blank w1), if_pos ⟨w0, w1⟩]
  · rw [Medium.choose_default h0 h1, if_neg written]
  have conditions (p : Port) (c : Cond) := s.placed.mem_raiseLoadConditions p c
  have validity (x : Head) : s.placed.store.factoryValidity.get x = factoryValid (s.medium.factory.get x) := by
    cases x <;> rfl
  simp only [validity] at conditions
  refine ⟨_, exec_startUpLoad power starting, ?_⟩
  by_cases direct : s.medium.choose.image.timing.mode = .direct
  · rw [State.startStrobing_direct direct, State.raiseLoadConditions_eq]
    exact ⟨rfl, rfl, conditions, rfl, rfl, rfl, fun _ => ⟨rfl, rfl⟩, fun other => absurd direct other, rfl, rfl, rfl,
      rfl, rfl, rfl, rfl⟩
  · rw [State.startStrobing_other direct, State.raiseLoadConditions_eq]
    exact ⟨rfl, rfl, conditions, rfl, rfl, rfl, fun h => absurd h direct,
      fun _ => ⟨rfl, rfl, fun x => by cases x <;> rfl⟩, rfl, rfl, rfl, rfl, rfl, rfl, rfl⟩

end Sys2Proof.Machine

/-! SUPPORT. Proofs about the time base: what issues a strobe and what leaves TB alone, internally timed strobes, SYNC edges,
the acquisition and the schedule of a lock, timing changes, the reports, and the step of an idle hub. -/

namespace Sys2Proof.Machine

-- One theorem at a time: the check gives every concurrent one a large stack of its own.
set_option Elab.async false

/-! ## Commands that leave TB alone -/

section Frame

variable (s : State) (p : Port) (x : Head)

@[simp] theorem answer_state (result : Result) (payload : Payload) : (answer s result payload).state = s := rfl

/-! ### Transactions and ports -/

theorem State.endTransaction_tb {n : Nat} {take : Bool → State → State} (h : ∀ early u, (take early u).tb = u.tb) :
    (s.endTransaction p n take).tb = s.tb := by
  cases ht : s.ports[p].txn with
  | none => rw [s.endTransaction_none p n take ht, State.modifyPort_tb]
  | some t =>
    simp only [State.endTransaction, ht, h]
    rfl

@[simp] theorem chipSelectFall_tb (sooner : Bool) : (chipSelectFall p sooner s).tb = s.tb := by
  unfold chipSelectFall
  split
  · rfl
  · split <;> rfl

@[simp] theorem takeMalformed_tb (bytes : List Byte) (found : Received) (early : Bool) :
    (takeMalformed p bytes found early s).tb = s.tb := by
  unfold takeMalformed
  split
  · simp
  · split <;> simp

@[simp] theorem completionArrival_tb (index : Nat) : (completionArrival index s).tb = s.tb := by
  unfold completionArrival
  split <;> simp

@[simp] theorem setAttention_tb (mask : Byte) : (setAttention p mask s).state.tb = s.tb := by
  unfold setAttention
  split <;> simp

@[simp] theorem portReset_tb : (portReset p s).state.tb = s.tb := (portReset_frame p s).1

/-! ### History -/

@[simp] theorem histRead_tb (max : Byte) : (histRead p max s).state.tb = s.tb := by
  unfold histRead
  split <;> simp

@[simp] theorem histPeek_tb : (histPeek p s).state.tb = s.tb := by
  unfold histPeek
  split <;> simp

@[simp] theorem histSeek_tb (form : Byte) (n : PubNum) : (histSeek p form n s).state.tb = s.tb := by
  unfold histSeek
  split <;> simp

@[simp] theorem histWatermark_tb (value : BitVec 16) : (histWatermark p value s).state.tb = s.tb := by
  unfold histWatermark
  split <;> simp

@[simp] theorem State.overrunPort_tb (dropped : PubNum) : (s.overrunPort dropped p).tb = s.tb := by
  unfold State.overrunPort
  split <;> simp

@[simp] theorem State.appendRecord_tb (q : Publication) : (s.appendRecord q).tb = s.tb := by
  unfold State.appendRecord
  split <;> simp [State.dropOldest]

@[simp] theorem appendArrival_tb : (appendArrival s).tb = s.tb := by
  unfold appendArrival
  split <;> simp

/-! ### Delta contexts -/

@[simp] theorem State.liveAt_tb (q : Publication) (n : CtxNum) : (s.liveAt q n).tb = s.tb := by
  rw [State.liveAt_eq, State.entryAt_eq]

@[simp] theorem State.dropAt_tb (dropped : PubNum) (n : CtxNum) : (s.dropAt dropped n).tb = s.tb := by
  rw [State.dropAt_eq, State.entryAt_eq]

theorem foldl_tb {α : Type} {f : State → α → State} (h : ∀ u a, (f u a).tb = u.tb) (l : List α) :
    (l.foldl f s).tb = s.tb :=
  List.foldlRecOn (motive := fun t => t.tb = s.tb) l f rfl fun u hu a _ => (h u a).trans hu

@[simp] theorem deltaArrival_tb : (deltaArrival s).tb = s.tb := by
  unfold deltaArrival
  split
  · rfl
  · exact foldl_tb _ (by simp) _

@[simp] theorem dropArrival_tb : (dropArrival s).tb = s.tb := by
  unfold dropArrival
  split
  · rfl
  · exact foldl_tb _ (by simp) _

@[simp] theorem State.finishWalk_tb (n : CtxNum) (e : Entry) : (s.finishWalk n e).tb = s.tb := by
  unfold State.finishWalk
  split
  · simp
  · split <;> simp

@[simp] theorem walkStep_tb (n : CtxNum) : (walkStep n s).tb = s.tb := by
  unfold walkStep
  split
  · rfl
  · split
    · split <;> simp
    · rfl

@[simp] theorem deltaOpen_tb (tag : Byte) (label period : BitVec 16) (form : Byte) (n : PubNum) :
    (deltaOpen p tag label period form n s).state.tb = s.tb := by
  unfold deltaOpen
  split
  · rfl
  · split
    · rfl
    · split
      · rfl
      · split
        · rfl
        · split <;> rfl

@[simp] theorem deltaTake_tb (ctx : Byte) : (deltaTake p ctx s).state.tb = s.tb := by
  unfold deltaTake
  split
  · rfl
  · split <;> rfl

@[simp] theorem deltaCollect_tb (ctx : Byte) : (deltaCollect p ctx s).state.tb = s.tb := by
  unfold deltaCollect
  split
  · rfl
  · split <;> rfl

@[simp] theorem deltaClose_tb (ctx discard : Byte) : (deltaClose p ctx discard s).state.tb = s.tb := by
  unfold deltaClose
  split
  · rfl
  · split <;> rfl

@[simp] theorem deltaStatus_tb (ctx : Byte) : (deltaStatus p ctx s).state.tb = s.tb := by
  unfold deltaStatus
  split <;> rfl

/-! ### The lease and the staged image -/

@[simp] theorem leaseAcquire_tb (tag wait : Byte) (period : BitVec 16) :
    (leaseAcquire p tag wait period s).state.tb = s.tb := by
  unfold leaseAcquire
  split
  · rfl
  · split
    · rfl
    · split
      · rfl
      · split
        · rfl
        · split <;> rfl

@[simp] theorem leaseRelease_tb : (leaseRelease p s).state.tb = s.tb := by
  unfold leaseRelease
  split
  · simp
  · split <;> rfl

@[simp] theorem leaseExpiry_tb : (leaseExpiry s).tb = s.tb := by
  unfold leaseExpiry
  split
  · rfl
  · split <;> simp

theorem asHolder_tb {f : Lease → Answer} (h : ∀ l, (f l).state.tb = s.tb) : (asHolder p s f).state.tb = s.tb := by
  unfold asHolder
  split
  · rfl
  · split
    · exact h _
    · rfl

@[simp] theorem stageCal_tb (head group : Byte) (values : Mat3 (BitVec 32)) :
    (stageCal p head group values s).state.tb = s.tb := by
  refine asHolder_tb s p fun l => ?_
  split
  · rfl
  · rfl
  · split <;> rfl

@[simp] theorem stageSource_tb (mode : Byte) (holdOff : BitVec 16) : (stageSource p mode holdOff s).state.tb = s.tb := by
  refine asHolder_tb s p fun l => ?_
  split <;> rfl

@[simp] theorem stageThresholds_tb (gyro accel : BitVec 32) : (stageThresholds p gyro accel s).state.tb = s.tb := by
  refine asHolder_tb s p fun l => ?_
  split
  · rfl
  · split <;> rfl

@[simp] theorem stageTiming_tb (rate : BitVec 16) (mode : Byte) (scale : BitVec 16) :
    (stageTiming p rate mode scale s).state.tb = s.tb := by
  refine asHolder_tb s p fun l => ?_
  split <;> rfl

@[simp] theorem stageRead_tb : (stageRead p s).state.tb = s.tb := asHolder_tb s p fun _ => rfl

@[simp] theorem stageDiscard_tb : (stageDiscard p s).state.tb = s.tb := asHolder_tb s p fun _ => rfl

@[simp] theorem activate_tb : (activate p s).state.tb = s.tb := by
  refine asHolder_tb s p fun l => ?_
  split <;> rfl

/-! ### Calibration, store and conditions -/

@[simp] theorem calRead_tb (head form : Byte) : (calRead p head form s).state.tb = s.tb := by
  unfold calRead
  split
  · rfl
  · rfl
  · rfl
  · rfl
  · split
    · split <;> rfl
    · rfl

@[simp] theorem storeCommit_tb (tag : Byte) : (storeCommit p tag s).state.tb = s.tb := by
  simp only [storeCommit, apply_ite Answer.state, apply_ite State.tb, answer_state, State.beginCommit_tb, ite_self]

@[simp] theorem erasingEnd_tb : (erasingEnd s).tb = s.tb := by
  unfold erasingEnd
  split
  · rfl
  · split <;> rfl

@[simp] theorem writingEnd_tb (outcome : MediumOutcome) : (writingEnd outcome s).tb = s.tb := by
  unfold writingEnd
  split
  · rfl
  · split <;> rfl

@[simp] theorem verifyingEnd_tb : (verifyingEnd s).tb = s.tb := by
  unfold verifyingEnd
  split
  · rfl
  · split
    · split <;> simp [State.commitDone, State.commitFailed]
    · rfl

@[simp] theorem levelArrival_tb : (levelArrival s).tb = s.tb := by
  unfold levelArrival
  split
  · rfl
  · exact foldl_tb _ (by simp) _

/-! ### Windows -/

@[simp] theorem State.openWindow_tb (strobe : Strobe) : (s.openWindow strobe).tb = s.tb := by
  unfold State.openWindow
  dsimp only
  split <;> simp

@[simp] theorem State.strobeAtSel_tb (strobe : Strobe) : (s.strobeAtSel strobe).tb = s.tb := by
  unfold State.strobeAtSel
  split <;> simp

@[simp] theorem strobeArrival_tb : (strobeArrival s).tb = s.tb := by
  unfold strobeArrival
  split <;> simp

@[simp] theorem State.recordFrame_tb (f : SampleFrame) : (s.recordFrame x f).tb = s.tb := by
  unfold State.recordFrame
  dsimp only
  split <;> simp

/-! ### Head links -/

@[simp] theorem State.keepIdentifying_tb : (s.keepIdentifying x).tb = s.tb := by
  unfold State.keepIdentifying
  dsimp only
  split <;> simp

@[simp] theorem State.checkSilence_tb : (s.checkSilence x).tb = s.tb := by
  unfold State.checkSilence
  split <;> simp [State.enterAbsent]

@[simp] theorem State.linkError_tb (e : LinkError) : (s.linkError x e).tb = s.tb := by
  unfold State.linkError
  dsimp only
  split
  · simp
  · simp
  · simp
  · simp
  · split <;> simp [State.enterFaulted]

@[simp] theorem sampleArrival_tb (f : SampleFrame) : (sampleArrival x f s).tb = s.tb := by
  unfold sampleArrival
  split
  · rw [State.acceptSample_eq]
    simp [State.sampled]
  · simp

@[simp] theorem State.identify_tb (serial : BitVec 32) : (s.identify x serial).tb = s.tb := by
  unfold State.identify
  split
  · split <;> simp [State.enterForeign]
  · rfl

@[simp] theorem State.acceptResponse_tb (body : ResponseBody) : (s.acceptResponse x body).tb = s.tb := by
  unfold State.acceptResponse
  dsimp only
  split
  · simp
  · split <;> simp

@[simp] theorem responseArrival_tb (body : ResponseBody) : (responseArrival x body s).tb = s.tb := by
  unfold responseArrival
  split <;> simp

@[simp] theorem brokenArrival_tb (bytes : List Byte) : (brokenArrival x bytes s).tb = s.tb := by
  unfold brokenArrival
  split <;> simp

@[simp] theorem commandTimeout_tb : (commandTimeout x s).tb = s.tb := by
  unfold commandTimeout
  split <;> simp

@[simp] theorem missArrival_tb : (missArrival x s).tb = s.tb := by
  unfold missArrival
  split <;> simp

@[simp] theorem strobeAtLink_tb : (strobeAtLink x s).tb = s.tb := by
  unfold strobeAtLink
  split
  · rfl
  · unfold State.strobeAt
    dsimp only
    split <;> simp

@[simp] theorem hostCommand_tb (k : CommandKind) (tag : Byte) : (hostCommand x k p tag s).state.tb = s.tb := by
  unfold hostCommand
  split
  · rfl
  · split <;> rfl

@[simp] theorem headIdent_tb (tag head : Byte) : (headIdent p tag head s).state.tb = s.tb := by
  unfold headIdent
  split <;> simp

@[simp] theorem headTest_tb (tag head : Byte) : (headTest p tag head s).state.tb = s.tb := by
  unfold headTest
  split
  · rfl
  · split <;> simp

end Frame

/-! ### Requests -/

/-- A request leaves TB as its own part does: the rest is the end of its transaction and its reply (R171 to R174). -/
theorem tb_of_requestEnd {r : Req} {k : RequestKind} {carry : State → Answer} {s t : State}
    (hc : ∀ u : State, (carry u).state.tb = u.tb) (h : requestEnd r k carry s = .next t) : t.tb = s.tb := by
  cases h
  refine s.endTransaction_tb r.port fun early u => ?_
  unfold takeRequest
  split
  · simp
  · split <;> simp [hc]

theorem tb_of_carryOut {i : Instr} {s t : State} (h : carryOut i s = .next t) : t.tb = s.tb := by
  cases i with
  | identify | healthRead | timeRead | storeStatus => exact tb_of_requestEnd (fun _ => rfl) h
  | condRead => exact tb_of_requestEnd (fun _ => rfl) h
  | portReset => exact tb_of_requestEnd (fun _ => portReset_tb ..) h
  | setAttention => exact tb_of_requestEnd (fun _ => setAttention_tb ..) h
  | histRead => exact tb_of_requestEnd (fun _ => histRead_tb ..) h
  | histPeek => exact tb_of_requestEnd (fun _ => histPeek_tb ..) h
  | histSeek => exact tb_of_requestEnd (fun _ => histSeek_tb ..) h
  | histWatermark => exact tb_of_requestEnd (fun _ => histWatermark_tb ..) h
  | deltaOpen => exact tb_of_requestEnd (fun _ => deltaOpen_tb ..) h
  | deltaTake => exact tb_of_requestEnd (fun _ => deltaTake_tb ..) h
  | deltaCollect => exact tb_of_requestEnd (fun _ => deltaCollect_tb ..) h
  | deltaClose => exact tb_of_requestEnd (fun _ => deltaClose_tb ..) h
  | deltaStatus => exact tb_of_requestEnd (fun _ => deltaStatus_tb ..) h
  | calRead => exact tb_of_requestEnd (fun _ => calRead_tb ..) h
  | headIdent => exact tb_of_requestEnd (fun _ => headIdent_tb ..) h
  | headTest => exact tb_of_requestEnd (fun _ => headTest_tb ..) h
  | leaseAcquire => exact tb_of_requestEnd (fun _ => leaseAcquire_tb ..) h
  | leaseRelease => exact tb_of_requestEnd (fun _ => leaseRelease_tb ..) h
  | stageCal => exact tb_of_requestEnd (fun _ => stageCal_tb ..) h
  | stageSource => exact tb_of_requestEnd (fun _ => stageSource_tb ..) h
  | stageThresholds => exact tb_of_requestEnd (fun _ => stageThresholds_tb ..) h
  | stageTiming => exact tb_of_requestEnd (fun _ => stageTiming_tb ..) h
  | stageRead => exact tb_of_requestEnd (fun _ => stageRead_tb ..) h
  | stageDiscard => exact tb_of_requestEnd (fun _ => stageDiscard_tb ..) h
  | activate => exact tb_of_requestEnd (fun _ => activate_tb ..) h
  | storeCommit => exact tb_of_requestEnd (fun _ => storeCommit_tb ..) h
  | _ => cases h; rfl

theorem tb_of_malformedRequest {p : Port} {bytes : List Byte} {s t : State}
    (h : execMalformedRequest p bytes s = .next t) : t.tb = s.tb := by
  unfold execMalformedRequest at h
  split at h
  · cases h; exact s.endTransaction_tb p fun _ _ => rfl
  · exact tb_of_carryOut h
  · cases h; exact s.endTransaction_tb p fun _ _ => takeMalformed_tb ..
  · cases h; exact s.endTransaction_tb p fun _ _ => takeMalformed_tb ..
  · cases h; exact s.endTransaction_tb p fun _ _ => takeMalformed_tb ..

/-! ## Time since the reference time (R106) -/

theorem State.refPassed_iff (s : State) (n : Nat) :
    s.refPassed n = true ↔ ∃ ref, s.tb.refTime = some ref ∧ n ≤ s.since ref := by
  unfold State.refPassed State.sinceRef
  cases s.tb.refTime <;> simp

theorem State.spaced_iff (s : State) :
    s.spaced = true ↔ s.tb.strobeIssued = false ∨ ∃ ref, s.tb.refTime = some ref ∧ 200 ≤ s.since ref := by
  simp only [State.spaced, Bool.or_eq_true, Bool.not_eq_true', State.refPassed_iff, Config.minSpacing]

theorem State.spaced_of_refPassed {s : State} {n : Nat} (h : s.refPassed n = true) (le : 200 ≤ n) : s.spaced = true := by
  obtain ⟨ref, hr, passed⟩ := (s.refPassed_iff n).1 h
  exact s.spaced_iff.2 (.inr ⟨ref, hr, le.trans passed⟩)

/-! ## What a timing in force gives (R104, R116) -/

theorem Rate.period_ge (r : Rate) : 250 ≤ r.period := by cases r <;> decide

section Timing

variable {t : TimeBase} {g : Timing} (timing : t.timing = some g)
include timing

theorem TimeBase.period_eq : t.period = g.rate.period := by simp [TimeBase.period, timing]

theorem TimeBase.s_eq : t.s = g.scale.toNat := by simp [TimeBase.s, timing]

theorem TimeBase.indicatesFallback_eq : t.indicatesFallback = decide (g.mode ≠ .free) := by
  simp [TimeBase.indicatesFallback, timing]

theorem TimeBase.inDirect_iff : t.inDirect = true ↔ t.strobing = true ∧ g.mode = .direct := by
  simp [TimeBase.inDirect, timing]

theorem TimeBase.inScaled_iff : t.inScaled = true ↔ t.strobing = true ∧ g.mode = .scaled := by
  simp [TimeBase.inScaled, timing]

theorem TimeBase.internallyTimed_iff :
    t.internallyTimed = true ↔
      g.mode = .free ∨ (g.mode = .direct ∧ t.fallback = .fallback)
        ∨ (g.mode = .scaled ∧ (t.lock = .unlocked ∨ t.lock = .acquiring)) := by
  cases hm : g.mode <;> simp [TimeBase.internallyTimed, timing, hm]

end Timing

theorem TimeBase.timing_of_internallyTimed {t : TimeBase} (h : t.internallyTimed = true) : ∃ g, t.timing = some g := by
  cases ht : t.timing with
  | none => simp [TimeBase.internallyTimed, ht] at h
  | some g => exact ⟨g, rfl⟩

theorem TimeBase.timing_of_inDirect {t : TimeBase} (h : t.inDirect = true) : ∃ g, t.timing = some g := by
  cases ht : t.timing with
  | none => simp [TimeBase.inDirect, ht] at h
  | some g => exact ⟨g, rfl⟩

/-- Every period in force is longer than the spacing of R106. -/
theorem TimeBase.period_ge {t : TimeBase} (h : ∃ g, t.timing = some g) : 250 ≤ t.period := by
  obtain ⟨g, hg⟩ := h
  rw [TimeBase.period_eq hg]
  exact g.rate.period_ge

/-! ## Strobes and their spacing (R106) -/

/-- From `s` to `t` TB issues no strobe, or one at the present counter value that R106 allows. -/
def State.KeepsSpacing (s t : State) : Prop :=
  (t.tb.strobeNumber = s.tb.strobeNumber ∧ t.tb.refTime = s.tb.refTime)
    ∨ (t.tb.strobeNumber = s.tb.strobeNumber + 1 ∧ t.tb.refTime = some s.tb.counter ∧ s.spaced = true)

/-- The items of TB that a strobe moves, or that say when one may fall, are the same in both states. -/
structure State.SameStrobe (s u : State) : Prop where
  counter : u.tb.counter = s.tb.counter := by rfl
  number : u.tb.strobeNumber = s.tb.strobeNumber := by rfl
  refTime : u.tb.refTime = s.tb.refTime := by rfl
  issued : u.tb.strobeIssued = s.tb.strobeIssued := by rfl

theorem State.SameStrobe.of_tb {s u : State} (h : u.tb = s.tb) : s.SameStrobe u :=
  ⟨congrArg _ h, congrArg _ h, congrArg _ h, congrArg _ h⟩

theorem State.SameStrobe.spaced {s u : State} (h : s.SameStrobe u) : u.spaced = s.spaced := by
  have since : u.since = s.since := funext fun t => by rw [State.since, State.since, h.counter]
  simp only [State.spaced, State.refPassed, State.sinceRef, since, h.refTime, h.issued]

theorem TimeBase.retime_sameStrobe (s : State) (g : Timing) : s.SameStrobe { s with tb := s.tb.retime g } := by
  unfold TimeBase.retime
  split
  · exact {}
  · split
    · exact {}
    · split <;> exact {}
    · exact {}

namespace State.KeepsSpacing

variable {s t u : State}

theorem still (h : s.SameStrobe t) : s.KeepsSpacing t := .inl ⟨h.number, h.refTime⟩

theorem of_tb (h : t.tb = s.tb) : s.KeepsSpacing t := still (.of_tb h)

theorem issue (spaced : s.spaced = true) (number : t.tb.strobeNumber = s.tb.strobeNumber + 1 := by rfl)
    (refTime : t.tb.refTime = some s.tb.counter := by rfl) : s.KeepsSpacing t := .inr ⟨number, refTime, spaced⟩

/-- What follows a change of other items keeps the spacing from there. -/
theorem after (h : s.SameStrobe u) (g : u.KeepsSpacing t) : s.KeepsSpacing t := by
  unfold KeepsSpacing at g ⊢
  rwa [h.number, h.refTime, h.counter, h.spaced] at g

theorem freeStrobe (s : State) : s.KeepsSpacing (freeStrobe s) := by
  unfold Machine.freeStrobe
  split
  · next due =>
    simp only [State.freeStrobeDue, Bool.and_eq_true] at due
    obtain ⟨⟨-, internal⟩, passed⟩ := due
    have period := TimeBase.period_ge (TimeBase.timing_of_internallyTimed internal)
    exact issue (State.spaced_of_refPassed passed (by omega))
  · exact still {}

theorem fallbackCheck (s : State) : s.KeepsSpacing (fallbackCheck s) := by
  unfold Machine.fallbackCheck
  split
  · next due =>
    simp only [State.fallbackCheckDue, Bool.and_eq_true] at due
    obtain ⟨⟨direct, -⟩, passed⟩ := due
    have period := TimeBase.period_ge (TimeBase.timing_of_inDirect direct)
    exact issue (State.spaced_of_refPassed passed (by omega))
  · exact still {}

theorem syncEdge (s : State) : s.KeepsSpacing (syncEdge s) := by
  unfold Machine.syncEdge
  split
  · split
    · next spaced => exact issue spaced
    · exact still {}
  · exact still {}

theorem startInterval (s : State) (origin : Micros) (count : BitVec 16) (m : Nat) :
    s.KeepsSpacing (s.startInterval origin count m) := by
  unfold State.startInterval
  split
  · next spaced => exact issue spaced
  · exact still {}

theorem lockAt (s : State) (ref : LockRef) : s.KeepsSpacing (s.lockAt ref) := after {} (startInterval ..)

theorem rejectPulse (s : State) : s.KeepsSpacing (rejectPulse s) := after {} (of_tb (State.raiseIf_tb ..))

theorem acquirePulse (s : State) : s.KeepsSpacing (acquirePulse s) := by
  unfold Machine.acquirePulse
  split
  · exact still {}
  · have measured (run : AcquisitionRun) (outside : Bool) :
        s.SameStrobe (({ s with tb := { s.tb with run := run } } : State).raiseIf outside .scaleRange) := by
      constructor <;> rw [State.raiseIf_tb]
    dsimp only
    split
    · exact after (measured ..) (lockAt ..)
    · exact still (measured ..)

theorem lockedPulse (s : State) (ref : LockRef) : s.KeepsSpacing (lockedPulse ref s) := by
  unfold Machine.lockedPulse
  dsimp only
  split
  · split
    · exact after {} (rejectPulse (s.raise .scaleRange))
    · exact lockAt ..
  · exact rejectPulse s

theorem holdoverPulse (s : State) (ref : LockRef) : s.KeepsSpacing (holdoverPulse ref s) := by
  unfold Machine.holdoverPulse
  split
  · exact lockAt ..
  · exact rejectPulse s

theorem syncPulse (s : State) : s.KeepsSpacing (syncPulse s) := by
  unfold Machine.syncPulse
  split
  · split
    · exact still {}
    · exact acquirePulse s
    · exact lockedPulse s _
    · exact holdoverPulse s _
    · exact still {}
    · exact still {}
  · exact still {}

theorem scheduledStrobe (s : State) : s.KeepsSpacing (scheduledStrobe s) := by
  unfold Machine.scheduledStrobe
  split
  · exact still {}
  · split
    · next due =>
      unfold State.scheduledStrobeDue at due
      split at due
      · cases due
      · simp only [Bool.and_eq_true] at due
        exact issue due.2
    · exact still {}

theorem virtualOrigin (s : State) : s.KeepsSpacing (virtualOrigin s) := by
  unfold Machine.virtualOrigin
  split
  · exact still {}
  · split
    · exact startInterval ..
    · exact still {}

theorem holdoverDeadline (s : State) : s.KeepsSpacing (holdoverDeadline s) := by
  unfold Machine.holdoverDeadline
  split
  · exact after {} (of_tb (State.raiseIf_tb ..))
  · exact still {}

theorem holdoverEnd (s : State) : s.KeepsSpacing (holdoverEnd s) := by
  unfold Machine.holdoverEnd
  split <;> exact still {}

theorem changeTiming (s : State) (g : Timing) : s.KeepsSpacing (s.changeTiming g) := by
  by_cases same : s.tb.timing = some g
  · rw [s.changeTiming_same g same]
    exact still {}
  · rw [s.changeTiming_other g same]
    refine after (TimeBase.retime_sameStrobe s g) ?_
    obtain e | ⟨-, -, e⟩ | ⟨-, -, e⟩ := State.issueOverdue_cases { s with tb := s.tb.retime g }
    · rw [e]; exact still {}
    · rw [e]; exact freeStrobe _
    · rw [e]; exact fallbackCheck _

theorem timingArrival (s : State) : s.KeepsSpacing (timingArrival s) := by
  unfold Machine.timingArrival
  split
  · exact still {}
  · exact after {} (changeTiming ..)

/-- Outside STARTING the end of the load is no event (R145). -/
theorem startUpLoad (running : s.store.device = .running) : s.KeepsSpacing (startUpLoad s) := by
  rw [Machine.startUpLoad, if_neg (by simp [running])]
  exact still {}

theorem of_whileRunning {f : State → State} (hf : s.KeepsSpacing (f s)) (h : whileRunning f s = .next t) :
    s.KeepsSpacing t := by
  unfold whileRunning at h
  split at h
  · cases h; exact hf
  · cases h; exact still {}

/-- Every command but those of reset and supply keeps the spacing, once the load has ended. -/
theorem of_exec {c : Instr} (notReset : ∀ cause, c ≠ .partReset cause) (notRelease : c ≠ .resetRelease)
    (notLoss : c ≠ .powerLoss) (running : s.store.device = .running) (h : exec c s = .next t) : s.KeepsSpacing t := by
  by_cases request : (requestOf c).isSome = true
  · exact of_tb (tb_of_carryOut (exec_request request s ▸ h))
  cases c with
  | partReset cause => exact absurd rfl (notReset cause)
  | resetRelease => exact absurd rfl notRelease
  | powerLoss => exact absurd rfl notLoss
  | startUpLoad => exact of_whileRunning (startUpLoad running) h
  | chipSelectFall => cases h; exact of_tb (chipSelectFall_tb ..)
  | nop => cases h; exact of_tb (s.endTransaction_tb _ fun _ _ => rfl)
  | malformedRequest => exact of_tb (tb_of_malformedRequest h)
  | freeStrobe => exact of_whileRunning (freeStrobe s) h
  | syncEdge => exact of_whileRunning (syncEdge s) h
  | fallbackCheck => exact of_whileRunning (fallbackCheck s) h
  | syncPulse => exact of_whileRunning (syncPulse s) h
  | scheduledStrobe => exact of_whileRunning (scheduledStrobe s) h
  | virtualOrigin => exact of_whileRunning (virtualOrigin s) h
  | holdoverDeadline => exact of_whileRunning (holdoverDeadline s) h
  | holdoverEnd => exact of_whileRunning (holdoverEnd s) h
  | timingChange => exact of_whileRunning (timingArrival s) h
  | erasingEnd => exact of_whileRunning (of_tb (erasingEnd_tb s)) h
  | writingEnd => exact of_whileRunning (of_tb (writingEnd_tb ..)) h
  | verifyingEnd => exact of_whileRunning (of_tb (verifyingEnd_tb s)) h
  | completionArrival => exact of_whileRunning (of_tb (completionArrival_tb ..)) h
  | leaseExpiry => exact of_whileRunning (of_tb (leaseExpiry_tb s)) h
  | strobeAtSel => exact of_whileRunning (of_tb (strobeArrival_tb s)) h
  | strobeAtLink => exact of_whileRunning (of_tb (strobeAtLink_tb ..)) h
  | sample => exact of_whileRunning (of_tb (sampleArrival_tb ..)) h
  | response => exact of_whileRunning (of_tb (responseArrival_tb ..)) h
  | crcError => exact of_whileRunning (of_tb (brokenArrival_tb ..)) h
  | commandTimeout => exact of_whileRunning (of_tb (commandTimeout_tb ..)) h
  | miss => exact of_whileRunning (of_tb (missArrival_tb ..)) h
  | append => exact of_whileRunning (of_tb (appendArrival_tb s)) h
  | publicationAtDelta => exact of_whileRunning (of_tb (deltaArrival_tb s)) h
  | walkStep => exact of_whileRunning (of_tb (walkStep_tb ..)) h
  | dropAtDelta => exact of_whileRunning (of_tb (dropArrival_tb s)) h
  | levelReEvaluation => exact of_whileRunning (of_tb (levelArrival_tb s)) h
  | _ => exact absurd rfl request

end State.KeepsSpacing

/-- Settles O29: a strobe that keeps the spacing, with one issued before it, falls 200 µs or more after the reference time. -/
theorem noStrobeFollowsAnotherWithin200Microseconds : Obligations.NoStrobeFollowsAnotherWithin200Microseconds := by
  intro c s t ref notReset notRelease notLoss running issued hr h
  obtain still | ⟨number, refTime, spaced⟩ := State.KeepsSpacing.of_exec notReset notRelease notLoss running h
  · exact .inl still
  · refine .inr ⟨number, refTime, ?_⟩
    obtain first | ⟨last, hl, passed⟩ := (State.spaced_iff s).1 spaced
    · rw [issued] at first; cases first
    · cases hr.symm.trans hl
      exact passed

/-! ## Internally timed strobes (R104, R108) -/

theorem whileRunning_same {f : State → State} {s : State} (h : f s = s) : whileRunning f s = .next s := by
  rw [whileRunning, h, ite_self]

section Internal

variable {s : State}

theorem freeStrobe_due (due : s.freeStrobeDue = true) :
    freeStrobe s = s.issueStrobe s.tb.counter s.tb.indicatesFallback none := if_pos due

theorem freeStrobe_early (early : ¬s.freeStrobeDue = true) : freeStrobe s = s := if_neg early

theorem exec_freeStrobe_early (early : ¬s.freeStrobeDue = true) : exec .freeStrobe s = .next s :=
  whileRunning_same (freeStrobe_early early)

/-- The fallback check as it is taken: a strobe with the fallback indication, FALLBACK, and SYNC_LOST (R108, R115). -/
def State.fellBack (s : State) : State :=
  ({ s.issueStrobe s.tb.counter true none with
      tb := { (s.issueStrobe s.tb.counter true none).tb with fallback := .fallback } } : State).raise .syncLost

theorem fallbackCheck_due (due : s.fallbackCheckDue = true) : fallbackCheck s = s.fellBack := if_pos due

theorem fallbackCheck_early (early : ¬s.fallbackCheckDue = true) : fallbackCheck s = s := if_neg early

theorem exec_fallbackCheck_early (early : ¬s.fallbackCheckDue = true) : exec .fallbackCheck s = .next s :=
  whileRunning_same (fallbackCheck_early early)

theorem State.freeStrobeDue_iff :
    s.freeStrobeDue = true ↔
      s.tb.strobing = true ∧ s.tb.internallyTimed = true
        ∧ ∃ ref, s.tb.refTime = some ref ∧ s.tb.period ≤ s.since ref := by
  simp only [State.freeStrobeDue, Bool.and_eq_true, State.refPassed_iff, and_assoc]

theorem State.fallbackCheckDue_iff :
    s.fallbackCheckDue = true ↔
      s.tb.inDirect = true ∧ s.tb.fallback = .edge ∧ ∃ ref, s.tb.refTime = some ref ∧ 4 * s.tb.period ≤ s.since ref := by
  simp only [State.fallbackCheckDue, Bool.and_eq_true, State.refPassed_iff, and_assoc, decide_eq_true_eq]

/-- Without strobing, timing or a reference time TB times no strobe (R103, R105). -/
theorem State.not_due_of_still (still : s.tb.strobing = false ∨ s.tb.timing = none ∨ s.tb.refTime = none) :
    ¬s.freeStrobeDue = true ∧ ¬s.fallbackCheckDue = true := by
  rw [State.freeStrobeDue_iff, State.fallbackCheckDue_iff]
  obtain h | h | h := still
  · simp [TimeBase.inDirect, h]
  · simp [TimeBase.internallyTimed, TimeBase.inDirect, h]
  · simp [h]

variable {g : Timing} {ref : Micros} (strobing : s.tb.strobing = true) (timing : s.tb.timing = some g)
  (reference : s.tb.refTime = some ref)

include reference in
theorem State.refPassed_eq (n : Nat) : s.refPassed n = decide (n ≤ s.since ref) := by
  simp [State.refPassed, State.sinceRef, reference]

include strobing timing reference

theorem State.freeStrobeDue_running :
    s.freeStrobeDue = true ↔
      (g.mode = .free ∨ (g.mode = .direct ∧ s.tb.fallback = .fallback)
          ∨ (g.mode = .scaled ∧ (s.tb.lock = .unlocked ∨ s.tb.lock = .acquiring)))
        ∧ g.rate.period ≤ s.since ref := by
  simp [State.freeStrobeDue_iff, strobing, TimeBase.internallyTimed_iff timing, TimeBase.period_eq timing, reference]

theorem State.fallbackCheckDue_running :
    s.fallbackCheckDue = true ↔ g.mode = .direct ∧ s.tb.fallback = .edge ∧ 4 * g.rate.period ≤ s.since ref := by
  simp [State.fallbackCheckDue_iff, TimeBase.inDirect_iff timing, strobing, TimeBase.period_eq timing, reference]

end Internal

/-- Settles O23: each command falls exactly when it is due, and the due tests are read off TB under the timing in force. -/
theorem internalStrobesFollowTheReferenceTime : Obligations.InternalStrobesFollowTheReferenceTime := by
  refine ⟨fun _ _ _ _ => rfl, fun s still => ?_, fun s g ref power strobing timing reference => ?_⟩
  · obtain ⟨free, check⟩ := State.not_due_of_still still
    exact ⟨exec_freeStrobe_early free, exec_fallbackCheck_early check⟩
  have free := State.freeStrobeDue_running strobing timing reference
  have check := State.fallbackCheckDue_running strobing timing reference
  refine ⟨fun early => exec_freeStrobe_early ?_, fun direct edge => exec_freeStrobe_early ?_,
    fun scaled lock => exec_freeStrobe_early ?_, fun internal passed => ?_, fun other => exec_fallbackCheck_early ?_,
    fun direct edge passed => ?_⟩
  · rw [free]
    exact fun ⟨_, passed⟩ => absurd passed (not_le.2 early)
  · simp [free, direct, edge]
  · obtain lock | lock := lock <;> simp [free, scaled, lock]
  · rw [← TimeBase.indicatesFallback_eq timing, ← freeStrobe_due (free.2 ⟨internal, passed⟩)]
    exact whileRunning_running _ s power
  · rw [check]
    rintro ⟨direct, edge, passed⟩
    obtain h | h | h := other
    · exact h direct
    · rw [edge] at h; cases h
    · omega
  · rw [← State.fellBack, ← fallbackCheck_due (check.2 ⟨direct, edge, passed⟩)]
    exact whileRunning_running _ s power

/-! ## SYNC edges (R107) -/

/-- Settles O24: both cases are the spacing test of an edge in DIRECT. -/
theorem syncEdgesAreAcceptedOrRejectedBySpacing : Obligations.SyncEdgesAreAcceptedOrRejectedBySpacing := by
  intro s g power strobing timing direct
  have run : exec .syncEdge s = .next (syncEdge s) := whileRunning_running _ s power
  have inDirect : s.tb.inDirect = true := (TimeBase.inDirect_iff timing).2 ⟨strobing, direct⟩
  rw [run, syncEdge, if_pos inDirect]
  refine ⟨fun spaced => ?_, fun issued near => ?_⟩
  · rw [if_pos (s.spaced_iff.2 spaced)]
    rfl
  · have close : ¬s.spaced = true := by
      rw [State.spaced_iff]
      rintro (first | ⟨ref, hr, passed⟩)
      · rw [issued] at first; cases first
      · exact absurd passed (not_le.2 (near ref hr))
    rw [if_neg close]

/-! ## Reports (R117, R154, R166, R181) -/

theorem TimeBase.reportedI_eq (t : TimeBase) :
    t.reportedI = if t.lock = .locked ∨ t.lock = .holdover then (t.lockRef.map LockRef.i).getD 0#48 else 0#48 := by
  simp only [TimeBase.reportedI, Bool.or_eq_true, decide_eq_true_eq]

/-- The mode and the sync state of the health snapshot (R167). -/
def TimeBase.syncReport (t : TimeBase) : Option (SyncMode × SyncState) :=
  match t.timing, t.syncState with
  | some g, some st => some (g.mode, st)
  | _, _ => none

theorem TimeBase.syncReport_none {t : TimeBase} (h : t.timing = none) : t.syncReport = none := by
  simp [TimeBase.syncReport, h]

section SyncReport

variable {t : TimeBase} {g : Timing} (timing : t.timing = some g)
include timing

theorem TimeBase.syncReport_free (mode : g.mode = .free) : t.syncReport = some (.free, .none) := by
  simp [TimeBase.syncReport, TimeBase.syncState, timing, mode]

theorem TimeBase.syncReport_direct (mode : g.mode = .direct) :
    t.syncReport = some (.direct, if t.fallback = .edge then .edge else .fallback) := by
  cases h : t.fallback <;> simp [TimeBase.syncReport, TimeBase.syncState, timing, mode, h]

theorem TimeBase.syncReport_scaled (mode : g.mode = .scaled) :
    t.syncReport =
      some (.scaled,
        if t.lock = .unlocked then .unlocked else if t.lock = .acquiring then .acquiring
        else if t.lock = .locked then .locked else .holdover) := by
  cases h : t.lock <;> simp [TimeBase.syncReport, TimeBase.syncState, timing, mode, h]

end SyncReport

/-- A link as the snapshot has it: at its part-reset values during STARTING, and as it stands from then on (R167). -/
theorem State.linkReports_eq {s : State} {links : Pair LinkReport}
    (starting : s.store.device = .starting → ∀ x, links.get x = Link.reset.report)
    (running : s.store.device = .running → ∀ x, links.get x = (s.links.get x).report) :
    links = ⟨s.linkReport .A, s.linkReport .B⟩ := by
  have each (x : Head) : links.get x = s.linkReport x := by
    cases device : s.store.device with
    | starting => rw [starting device, s.linkReport_starting x device]
    | running => rw [running device, s.linkReport_running x device]
  rw [← each, ← each]
  rfl

theorem TimeBase.eq_syncReport {t : TimeBase} {sync : Option (SyncMode × SyncState)} (untimed : t.timing = none → sync = none)
    (timed : ∀ g, t.timing = some g →
      (g.mode = .free → sync = some (.free, .none))
        ∧ (g.mode = .direct → sync = some (.direct, if t.fallback = .edge then .edge else .fallback))
        ∧ (g.mode = .scaled →
          sync =
            some (.scaled,
              if t.lock = .unlocked then .unlocked else if t.lock = .acquiring then .acquiring
              else if t.lock = .locked then .locked else .holdover))) :
    sync = t.syncReport := by
  cases timing : t.timing with
  | none => rw [untimed timing, TimeBase.syncReport_none timing]
  | some g =>
    obtain ⟨free, direct, scaled⟩ := timed g timing
    cases mode : g.mode with
    | free => rw [free mode, TimeBase.syncReport_free timing mode]
    | direct => rw [direct mode, TimeBase.syncReport_direct timing mode]
    | scaled => rw [scaled mode, TimeBase.syncReport_scaled timing mode]

theorem DeltaEngine.eq_contextReports {d : DeltaEngine} {contexts : Vector (Option (CtxState × Port)) 8}
    (h : ∀ n : CtxNum, contexts[n] = d.contexts[n].map fun c => (c.state, c.owner)) :
    contexts = d.contexts.map fun e => e.map fun c => (c.state, c.owner) := by
  refine Vector.ext fun i hi => ?_
  rw [Vector.getElem_map]
  exact h ⟨i, hi⟩

section Served

variable (s : State) (r : Req) (k : RequestKind)

/-- No report reads what the end of a transaction changes (R171). -/
theorem State.served_healthReport : (s.served r k).healthReport = s.healthReport := by
  simp only [State.healthReport, State.linkReport, State.now, State.served_tb, State.served_links, State.served_store,
    State.served_sel, State.served_cfg, State.served_delta, State.served_cond]

theorem State.served_storeReport : (s.served r k).storeReport = s.storeReport := by
  simp only [State.storeReport, State.served_store, State.served_medium, State.served_cfg]

theorem timeRead_served :
    timeRead (s.served r k) =
      answer (s.served r k) .ok
        (.time
          { time := s.tb.counter, newest := s.hist.records.getLast?.map Publication.number, timing := s.tb.timing,
            sync := s.tb.syncState, i := s.tb.reportedI, rejects := s.tb.rejectCount }) := by
  simp only [timeRead, State.now, State.served_tb, State.served_hist]

end Served

/-- The codes of R181 in their bytes, the highest first (section 11.1). -/
theorem identify_bytes :
    Payload.identify.bytes =
      [0x0C#8, 0x3D#8, 0x04#8, 0x02#8, Config.siliconRevision] ++ field 8 Config.hubSerial := by
  have vendor : field 2 Config.vendorCode = [0x0C#8, 0x3D#8] := by decide
  have part : field 2 Config.partCode = [0x04#8, 0x02#8] := by decide
  have revision : field 1 Config.siliconRevision = [Config.siliconRevision] := by simp [field, beBytes]
  rw [Payload.bytes, vendor, part, revision]
  rfl

/-- Settles O16: each request answers its report, and the snapshot's links, sync state and contexts are read off the state. -/
theorem reportRequestsChangeNothing : Obligations.ReportRequestsChangeNothing := by
  refine fun r s => ⟨fun ready => ⟨requestEnd_reported ready rfl, identify_bytes⟩,
    fun ready links starting running sync untimed timed contexts each => ?_, fun ready => ?_, fun ready => ?_⟩
  · rw [State.linkReports_eq starting running, TimeBase.eq_syncReport untimed timed, DeltaEngine.eq_contextReports each,
      ← TimeBase.reportedI_eq]
    exact requestEnd_reported ready (by rw [healthRead, State.served_healthReport]; rfl)
  · rw [← TimeBase.reportedI_eq]
    exact requestEnd_reported ready (timeRead_served ..)
  · exact requestEnd_reported ready (by rw [storeStatus, State.served_storeReport]; rfl)

/-! ## The step of an idle hub (log 1, log 2) -/

/-- Settles O2: on an empty queue the step is `idleStep`, and only a running hub has due events or counts time. -/
theorem idleStepTakesADueEventOrCountsAMicrosecond : Obligations.IdleStepTakesADueEventOrCountsAMicrosecond := by
  intro s empty
  have idle : step s = idleStep s := by simp only [step, empty]
  rw [idle]
  refine ⟨fun c due => ?_, fun nothing running => ?_, fun stopped => ?_⟩
  · simp only [idleStep, due]
  · simp only [idleStep, nothing, State.tick, running, if_true]
  · have nothing : s.dueEvent = none := if_neg stopped
    simp only [idleStep, nothing, State.tick, if_neg stopped]

/-! ## SYNC pulses in SCALED (R109 to R113) -/

theorem withinPercent_iff (a b i : Nat) : withinPercent a b i = true ↔ 100 * ((a : Int) - (b : Int)).natAbs ≤ i := by
  simp only [withinPercent, decide_eq_true_eq]

theorem TimeBase.outOfRange_eq_false {t : TimeBase} {g : Timing} (timing : t.timing = some g) {j : Nat}
    (low : 250 * g.scale.toNat ≤ j) (high : j ≤ 2000 * g.scale.toNat) : t.outOfRange j = false := by
  simp [TimeBase.outOfRange, TimeBase.s_eq timing, low, high]

theorem TimeBase.outOfRange_iff {t : TimeBase} {g : Timing} (timing : t.timing = some g) (j : Nat) :
    t.outOfRange j = true ↔ j < 250 * g.scale.toNat ∨ 2000 * g.scale.toNat < j := by
  simp only [TimeBase.outOfRange, TimeBase.s_eq timing, Bool.or_eq_true, decide_eq_true_eq]

/-! In SCALED a pulse is taken by the lock state in force. -/

section SyncPulse

variable {s : State} {g : Timing} {ref : LockRef} (power : s.power = .running) (strobing : s.tb.strobing = true)
  (timing : s.tb.timing = some g) (scaled : g.mode = .scaled)
include power strobing timing scaled

theorem exec_syncPulse_unlocked (lock : s.tb.lock = .unlocked) :
    exec .syncPulse s =
      .next { s with tb := { s.tb with lock := .acquiring, run := ⟨some s.tb.counter, none, 0⟩ } } := by
  have taken := whileRunning_running syncPulse s power
  rwa [syncPulse, if_pos ((TimeBase.inScaled_iff timing).2 ⟨strobing, scaled⟩), lock] at taken

theorem exec_syncPulse_acquiring (lock : s.tb.lock = .acquiring) : exec .syncPulse s = .next (acquirePulse s) := by
  have taken := whileRunning_running syncPulse s power
  rwa [syncPulse, if_pos ((TimeBase.inScaled_iff timing).2 ⟨strobing, scaled⟩), lock] at taken

theorem exec_syncPulse_locked (lock : s.tb.lock = .locked) (hr : s.tb.lockRef = some ref) :
    exec .syncPulse s = .next (lockedPulse ref s) := by
  have taken := whileRunning_running syncPulse s power
  rwa [syncPulse, if_pos ((TimeBase.inScaled_iff timing).2 ⟨strobing, scaled⟩), lock, hr] at taken

theorem exec_syncPulse_holdover (lock : s.tb.lock = .holdover) (hr : s.tb.lockRef = some ref) :
    exec .syncPulse s = .next (holdoverPulse ref s) := by
  have taken := whileRunning_running syncPulse s power
  rwa [syncPulse, if_pos ((TimeBase.inScaled_iff timing).2 ⟨strobing, scaled⟩), lock, hr] at taken

end SyncPulse

/-! ### The acquisition run (R110) -/

section Run

variable {r : AcquisitionRun} (t j : Micros)

theorem AcquisitionRun.pulse_first (empty : r.count = 0) : r.pulse t j false = ⟨some t, some j, 1⟩ := by
  cases h : r.inRange <;> simp [AcquisitionRun.pulse, h, empty]

theorem AcquisitionRun.pulse_near {i : Micros} (hi : r.inRange = some i) (counted : 0 < r.count)
    (near : withinPercent j.toNat i.toNat i.toNat = true) : r.pulse t j false = ⟨some t, some j, r.count + 1⟩ := by
  simp [AcquisitionRun.pulse, hi, near, counted.ne']

theorem AcquisitionRun.pulse_far {i : Micros} (hi : r.inRange = some i)
    (far : ¬withinPercent j.toNat i.toNat i.toNat = true) : r.pulse t j false = ⟨some t, some j, 1⟩ := by
  simp [AcquisitionRun.pulse, hi, far]

end Run

section Acquire

variable {s : State} {last : Micros} (hl : s.tb.run.lastPulse = some last)
include hl

/-- A pulse in ACQUIRING leaves the run it gives, SCALE_RANGE for one outside the range, and the lock at a count of 3. -/
theorem acquirePulse_eq {outside : Bool} {run : AcquisitionRun} {u : State} (range : s.tb.outOfRange (s.since last) = outside)
    (measured : s.tb.run.pulse s.tb.counter (s.tb.counter - last) outside = run)
    (hu : ({ s with tb := { s.tb with run := run } } : State).raiseIf outside .scaleRange = u) :
    acquirePulse s = if run.count = 3 then u.lockAt ⟨s.tb.counter, s.tb.counter - last, 0#16⟩ else u := by
  subst range measured hu
  simp only [acquirePulse, hl]
  rfl

theorem acquirePulse_outside (outside : s.tb.outOfRange (s.since last) = true) :
    acquirePulse s =
      ({ s with tb := { s.tb with run := ⟨some s.tb.counter, none, 0⟩ } } : State).raise .scaleRange :=
  acquirePulse_eq hl outside rfl rfl

variable {run : AcquisitionRun} (inside : s.tb.outOfRange (s.since last) = false)
  (measured : s.tb.run.pulse s.tb.counter (s.tb.counter - last) false = run)
include inside measured

theorem acquirePulse_counts (few : run.count ≠ 3) : acquirePulse s = { s with tb := { s.tb with run := run } } :=
  (acquirePulse_eq hl inside measured rfl).trans (if_neg few)

/-- The third in-range interval locks, whatever the run had held (R110). -/
theorem acquirePulse_locks (third : run.count = 3) :
    acquirePulse s = s.lockAt ⟨s.tb.counter, s.tb.counter - last, 0#16⟩ :=
  (acquirePulse_eq hl inside measured rfl).trans (if_pos third)

end Acquire

/-- Settles O25: each case of R110 is a case of the run's own function, and the count it gives decides the lock. -/
theorem pulsesOfAnAcquisitionRunAreCounted : Obligations.PulsesOfAnAcquisitionRunAreCounted := by
  refine fun s g power strobing timing scaled => ⟨exec_syncPulse_unlocked power strobing timing scaled,
    fun last lock hl => ?_⟩
  rw [exec_syncPulse_acquiring power strobing timing scaled lock]
  refine ⟨fun outside => ?_, fun low high => ?_⟩
  · rw [acquirePulse_outside hl ((TimeBase.outOfRange_iff timing _).2 outside)]
  have inside := TimeBase.outOfRange_eq_false timing low high
  refine ⟨fun first => ?_, fun i hi counted => ⟨fun near => ?_, fun far => ?_⟩⟩
  · rw [acquirePulse_counts hl inside (AcquisitionRun.pulse_first _ _ first) (by simp)]
  · have measured := AcquisitionRun.pulse_near s.tb.counter _ hi counted ((withinPercent_iff ..).2 near)
    refine ⟨fun few => ?_, fun third => ?_⟩
    · rw [acquirePulse_counts hl inside measured (by simpa using few)]
    · rw [acquirePulse_locks hl inside measured (by simp [third])]
      rfl
  · have measured := AcquisitionRun.pulse_far s.tb.counter (s.tb.counter - last) hi
      (by rw [withinPercent_iff]; exact not_le.2 far)
    rw [acquirePulse_counts hl inside measured (by simp)]

/-! ### The windows of a lock (R111 to R113) -/

section LockedPulse

variable {s : State} {ref : LockRef}

theorem lockedPulse_accepts (near : withinPercent (s.since ref.a) ref.i.toNat ref.i.toNat = true)
    (inside : s.tb.outOfRange (s.since ref.a) = false) :
    lockedPulse ref s = s.lockAt ⟨s.tb.counter, s.tb.counter - ref.a, ref.count + 1⟩ :=
  (if_pos near).trans (if_neg (Bool.eq_false_iff.1 inside))

theorem lockedPulse_outside (near : withinPercent (s.since ref.a) ref.i.toNat ref.i.toNat = true)
    (outside : s.tb.outOfRange (s.since ref.a) = true) : lockedPulse ref s = rejectPulse (s.raise .scaleRange) :=
  (if_pos near).trans (if_pos outside)

theorem lockedPulse_rejects (far : ¬withinPercent (s.since ref.a) ref.i.toNat ref.i.toNat = true) :
    lockedPulse ref s = rejectPulse s := if_neg far

end LockedPulse

/-- A time lies in the window of one prediction at most. -/
theorem withinPercent_unique {elapsed i m k : Nat} (pos : 0 < i) (hm : withinPercent elapsed (m * i) i = true)
    (hk : withinPercent elapsed (k * i) i = true) : m = k := by
  rw [withinPercent_iff] at hm hk
  obtain lt | eq | lt := lt_trichotomy m k
  · have apart : (m + 1) * i ≤ k * i := Nat.mul_le_mul_right i lt
    rw [Nat.add_mul] at apart
    omega
  · exact eq
  · have apart : (k + 1) * i ≤ m * i := Nat.mul_le_mul_right i lt
    rw [Nat.add_mul] at apart
    omega

theorem mem_predictions (m : Nat) : m ∈ [2, 3, 4, 5, 6, 7, 8, 9] ↔ 2 ≤ m ∧ m ≤ 9 := by
  simp only [List.mem_cons, List.not_mem_nil, or_false]
  omega

theorem holdoverWindow_eq_some {elapsed i m : Nat} (pos : 0 < i) (low : 2 ≤ m) (high : m ≤ 9)
    (near : withinPercent elapsed (m * i) i = true) : holdoverWindow elapsed i = some m := by
  cases found : holdoverWindow elapsed i with
  | none => exact absurd near (List.find?_eq_none.1 found m ((mem_predictions m).2 ⟨low, high⟩))
  | some k =>
    have inside : withinPercent elapsed (k * i) i = true :=
      List.find?_some (p := fun m => withinPercent elapsed (m * i) i) found
    rw [withinPercent_unique pos near inside]

theorem holdoverWindow_eq_none {elapsed i : Nat}
    (far : ∀ m, 2 ≤ m → m ≤ 9 → ¬withinPercent elapsed (m * i) i = true) : holdoverWindow elapsed i = none :=
  List.find?_eq_none.2 fun m hm => far m ((mem_predictions m).1 hm).1 ((mem_predictions m).1 hm).2

theorem holdoverPulse_relocks {s : State} {ref : LockRef} {m : Nat}
    (window : holdoverWindow (s.since ref.a) ref.i.toNat = some m) :
    holdoverPulse ref s = s.lockAt ⟨s.tb.counter, ref.i, ref.count + BitVec.ofNat 16 m⟩ := by
  simp only [holdoverPulse, window, State.now]

theorem holdoverPulse_rejects {s : State} {ref : LockRef} (window : holdoverWindow (s.since ref.a) ref.i.toNat = none) :
    holdoverPulse ref s = rejectPulse s := by
  simp only [holdoverPulse, window]

/-- In LOCKED a new lock writes no new lock state. -/
theorem State.lockAt_locked {s : State} (lock : s.tb.lock = .locked) (ref : LockRef) :
    s.lockAt ref =
      ({ s with
          tb :=
            { s.tb with lockRef := some ref, run := ⟨none, none, 0⟩, lockLost := false } } : State).startInterval
        ref.a ref.count 1 := by
  rw [State.lockAt, ← lock]
  rfl

/-- Settles O26: LOCKED by its one window, HOLDOVER by the windows of its predictions, which lie apart. -/
theorem pulsesOfALockAreAcceptedInTheirWindows : Obligations.PulsesOfALockAreAcceptedInTheirWindows := by
  refine fun s g ref power strobing timing scaled hr pos => ⟨fun lock => ?_, fun lock => ?_, fun u => rfl⟩
  · rw [exec_syncPulse_locked power strobing timing scaled lock hr]
    refine ⟨fun near => ?_, fun far => ?_⟩
    · have window := (withinPercent_iff ..).2 near
      refine ⟨fun low high => ?_, fun outside => ?_⟩
      · have inside : ¬s.tb.outOfRange (s.since ref.a) = true := by
          rw [TimeBase.outOfRange_iff timing]
          omega
        rw [lockedPulse_accepts window (TimeBase.outOfRange_eq_false timing low high), State.lockAt_locked lock]
      · rw [lockedPulse_outside window ((TimeBase.outOfRange_iff timing _).2 outside)]
    · rw [lockedPulse_rejects (by rw [withinPercent_iff]; exact not_le.2 far)]
  · rw [exec_syncPulse_holdover power strobing timing scaled lock hr]
    refine ⟨fun m low high near => ?_, fun far => ?_⟩
    · rw [holdoverPulse_relocks (holdoverWindow_eq_some pos low high ((withinPercent_iff ..).2 near))]
      rfl
    · rw [holdoverPulse_rejects (holdoverWindow_eq_none fun m low high => ?_)]
      rw [withinPercent_iff]
      exact not_le.2 (far m low high)

/-! ## The schedule of a lock (R106, R111 to R114) -/

theorem State.startInterval_spaced {s : State} (spaced : s.spaced = true) (origin : Micros) (count : BitVec 16) (m : Nat) :
    s.startInterval origin count m =
      { s.issueStrobe s.tb.counter false (some ⟨count, 0#16⟩) with
        tb :=
          { (s.issueStrobe s.tb.counter false (some ⟨count, 0#16⟩)).tb with
            schedule := some ⟨origin, 1#16, count, m⟩ } } := if_pos spaced

theorem State.startInterval_close {s : State} (close : ¬s.spaced = true) (origin : Micros) (count : BitVec 16) (m : Nat) :
    s.startInterval origin count m = { s with tb := { s.tb with schedule := some ⟨origin, 0#16, count, m⟩ } } :=
  if_neg close

theorem State.spaced_after {s : State} {last : Micros} (issued : s.tb.strobeIssued = true)
    (reference : s.tb.refTime = some last) : s.spaced = true ↔ 200 ≤ s.since last := by
  simp [State.spaced_iff, issued, reference]

/-- In SCALED the lock data is there in LOCKED and HOLDOVER alone. -/
theorem TimeBase.lockData_eq {t : TimeBase} {g : Timing} {ref : LockRef} {sch : Schedule} (strobing : t.strobing = true)
    (timing : t.timing = some g) (scaled : g.mode = .scaled) (hr : t.lockRef = some ref) (hs : t.schedule = some sch) :
    t.lockData = if t.lock = .locked ∨ t.lock = .holdover then some (ref, sch) else none := by
  simp only [TimeBase.lockData, (TimeBase.inScaled_iff timing).2 ⟨strobing, scaled⟩, hr, hs, Bool.true_and, Bool.or_eq_true,
    decide_eq_true_eq]

section Early

variable {s : State}

theorem exec_scheduledStrobe_early (early : ¬s.scheduledStrobeDue = true) : exec .scheduledStrobe s = .next s := by
  refine whileRunning_same ?_
  unfold scheduledStrobe
  split
  · rfl
  · exact if_neg early

theorem exec_virtualOrigin_early (early : ¬s.virtualOriginDue = true) : exec .virtualOrigin s = .next s := by
  refine whileRunning_same ?_
  unfold virtualOrigin
  split
  · rfl
  · exact if_neg early

theorem exec_holdoverDeadline_early (early : ¬s.holdoverDeadlineDue = true) : exec .holdoverDeadline s = .next s :=
  whileRunning_same (if_neg early)

theorem exec_holdoverEnd_early (early : ¬s.holdoverEndDue = true) : exec .holdoverEnd s = .next s :=
  whileRunning_same (if_neg early)

end Early

section Due

variable {s : State} {ref : LockRef} {sch : Schedule}
  (data : s.tb.lockData = if s.tb.lock = .locked ∨ s.tb.lock = .holdover then some (ref, sch) else none)

section Iff

include data

theorem State.scheduledStrobeDue_iff :
    s.scheduledStrobeDue = true ↔
      (s.tb.lock = .locked ∨ s.tb.lock = .holdover) ∧ sch.phase.toNat < s.tb.s
        ∧ placement sch.phase.toNat ref.i.toNat s.tb.s ≤ s.since sch.origin ∧ s.spaced = true := by
  cases lock : s.tb.lock <;> simp [State.scheduledStrobeDue, data, lock, and_assoc]

theorem State.virtualOriginDue_iff :
    s.virtualOriginDue = true ↔
      (s.tb.lock = .locked ∧ sch.prediction = 1 ∨ s.tb.lock = .holdover ∧ sch.prediction ≤ 8)
        ∧ sch.prediction * ref.i.toNat + ref.i.toNat / 100 + 1 ≤ s.since ref.a := by
  cases lock : s.tb.lock <;> simp [State.virtualOriginDue, data, lock, windowClose]

theorem State.holdoverDeadlineDue_iff :
    s.holdoverDeadlineDue = true ↔ s.tb.lock = .locked ∧ 105 * ref.i.toNat ≤ 100 * s.since ref.a := by
  cases lock : s.tb.lock <;> simp [State.holdoverDeadlineDue, data, lock]

theorem State.holdoverEndDue_iff :
    s.holdoverEndDue = true ↔
      s.tb.lock = .holdover ∧ 9 ≤ sch.prediction ∧ 9 * ref.i.toNat + ref.i.toNat / 100 + 1 ≤ s.since ref.a := by
  cases lock : s.tb.lock <;> simp [State.holdoverEndDue, data, lock, windowClose]

end Iff

variable (power : s.power = .running)
include power

theorem exec_scheduledStrobe_due (hs : s.tb.schedule = some sch) (due : s.scheduledStrobeDue = true) :
    exec .scheduledStrobe s =
      .next { s.issueStrobe s.tb.counter false (some ⟨sch.count, sch.phase⟩) with
        tb :=
          { (s.issueStrobe s.tb.counter false (some ⟨sch.count, sch.phase⟩)).tb with
            schedule := some { sch with phase := sch.phase + 1 } } } := by
  have taken : exec .scheduledStrobe s = .next (scheduledStrobe s) := whileRunning_running _ s power
  rw [taken]
  simp only [scheduledStrobe, hs, if_pos due]
  rfl

theorem exec_virtualOrigin_due (some_data : s.tb.lockData = some (ref, sch)) (due : s.virtualOriginDue = true) :
    exec .virtualOrigin s =
      .next (s.startInterval (ref.a + BitVec.ofNat 48 (sch.prediction * ref.i.toNat + ref.i.toNat / 100 + 1))
        (ref.count + BitVec.ofNat 16 sch.prediction) (sch.prediction + 1)) := by
  have taken : exec .virtualOrigin s = .next (virtualOrigin s) := whileRunning_running _ s power
  rw [taken]
  simp only [virtualOrigin, some_data, if_pos due]
  rfl

theorem exec_holdoverDeadline_due (due : s.holdoverDeadlineDue = true) :
    exec .holdoverDeadline s =
      .next (({ s with tb := { s.tb with lock := .holdover, lockLost := true } } : State).raiseIf (!s.tb.lockLost)
        .syncUnlock) :=
  (whileRunning_running _ s power).trans (congrArg _ (if_pos due))

theorem exec_holdoverEnd_due (due : s.holdoverEndDue = true) :
    exec .holdoverEnd s =
      .next { s with
        tb := { s.tb with lock := .unlocked, run := ⟨none, none, 0⟩, lockRef := none, schedule := none } } :=
  (whileRunning_running _ s power).trans (congrArg _ (if_pos due))

end Due

/-- Settles O27: the four events by their due tests under the lock data, and strobe 0 of an interval by the spacing. -/
theorem theScheduleOfALockIsKept : Obligations.TheScheduleOfALockIsKept := by
  intro s g ref sch power strobing timing scaled hr hs
  have data := TimeBase.lockData_eq strobing timing scaled hr hs
  have strobe := State.scheduledStrobeDue_iff data
  rw [TimeBase.s_eq timing, placement] at strobe
  have origin := State.virtualOriginDue_iff data
  have deadline := State.holdoverDeadlineDue_iff data
  have ends := State.holdoverEndDue_iff data
  refine ⟨fun notLocked notHoldover => ⟨exec_scheduledStrobe_early ?_, exec_virtualOrigin_early ?_,
      exec_holdoverDeadline_early ?_, exec_holdoverEnd_early ?_⟩,
    fun early => exec_scheduledStrobe_early ?_, fun early => exec_virtualOrigin_early ?_,
    fun early => exec_holdoverDeadline_early ?_, fun early => exec_holdoverEnd_early ?_,
    fun start last count m issued reference => ⟨fun spaced => ?_, fun close => ?_⟩,
    fun last lock reference spaced phase passed => ?_, fun lock passed => ?_, fun lock passed => ?_,
    fun lock prediction passed => ?_⟩
  · simp [strobe, notLocked, notHoldover]
  · simp [origin, notLocked, notHoldover]
  · simp [deadline, notLocked]
  · simp [ends, notHoldover]
  · rw [strobe]
    rintro ⟨-, phase, passed, spaced⟩
    obtain h | h | ⟨issued, last, reference, close⟩ := early
    · omega
    · omega
    · exact absurd ((State.spaced_after issued reference).1 spaced) (not_le.2 close)
  · rw [origin]
    rintro ⟨lock, passed⟩
    obtain ⟨locked, other⟩ | ⟨holdover, beyond⟩ | h := early
    · simp [locked, other] at lock
    · simp [holdover, not_le.2 beyond] at lock
    · exact absurd passed (not_le.2 h)
  · rw [deadline]
    rintro ⟨lock, passed⟩
    exact early.elim (absurd lock) (absurd passed ∘ not_le.2)
  · rw [ends]
    rintro ⟨lock, prediction, passed⟩
    obtain h | h | h := early
    · exact h lock
    · exact absurd prediction (not_le.2 h)
    · exact absurd passed (not_le.2 h)
  · rw [State.startInterval_spaced ((State.spaced_after issued reference).2 spaced)]
  · rw [State.startInterval_close (by rw [State.spaced_after issued reference]; exact not_le.2 close)]
  · exact exec_scheduledStrobe_due power hs
      (strobe.2 ⟨lock, phase, passed, s.spaced_iff.2 (.inr ⟨last, reference, spaced⟩)⟩)
  · have held : s.tb.lock = .locked ∨ s.tb.lock = .holdover := lock.imp And.left And.left
    exact exec_virtualOrigin_due power (data.trans (if_pos held)) (origin.2 ⟨lock, passed⟩)
  · exact exec_holdoverDeadline_due power (deadline.2 ⟨lock, passed⟩)
  · exact exec_holdoverEnd_due power (ends.2 ⟨lock, prediction, passed⟩)

/-! ## Timing changes (R116) -/

theorem exec_timingChange {s : State} {g : Timing} {rest : List Timing} (power : s.power = .running)
    (arrived : s.arrivals.timings = g :: rest) :
    exec .timingChange s =
      .next (({ s with arrivals := { s.arrivals with timings := rest } } : State).changeTiming g) := by
  have taken : exec .timingChange s = .next (timingArrival s) := whileRunning_running _ s power
  rw [taken]
  simp only [timingArrival, arrived]

section Retime

variable {t : TimeBase} {g : Timing} (other : t.timing ≠ some g)
include other

theorem TimeBase.retime_fresh
    (h : g.mode = .free ∨ (g.mode = .direct ∧ t.timing.map Timing.mode ≠ some .direct)) :
    t.retime g =
      { t with
        timing := some g, fallback := .edge, lock := .unlocked, run := ⟨none, none, 0⟩, lockRef := none,
        schedule := none, lockLost := false } := by
  obtain mode | ⟨mode, before⟩ := h
  · simp only [TimeBase.retime, if_neg other, mode]
    rfl
  · simp only [TimeBase.retime, if_neg other, mode, if_neg before]
    rfl

theorem TimeBase.retime_direct (mode : g.mode = .direct) (before : t.timing.map Timing.mode = some .direct) :
    t.retime g = { t with timing := some g } := by
  simp only [TimeBase.retime, if_neg other, mode, if_pos before]

theorem TimeBase.retime_scaled (mode : g.mode = .scaled) :
    t.retime g =
      { t with
        timing := some g, lock := .unlocked, run := ⟨none, none, 0⟩, lockRef := none, schedule := none,
        lockLost := false } := by
  simp only [TimeBase.retime, if_neg other, mode]
  rfl

theorem TimeBase.retime_timing : (t.retime g).timing = some g := by
  unfold TimeBase.retime
  rw [if_neg other]
  split
  · rfl
  · split <;> rfl
  · rfl

/-- Under new items TB times its strobes itself, unless it waits for edges in DIRECT. -/
theorem TimeBase.retime_internallyTimed :
    (t.retime g).internallyTimed = true ↔ g.mode ≠ .direct ∨ (t.retime g).fallback = .fallback := by
  rw [TimeBase.internallyTimed_iff (TimeBase.retime_timing other)]
  cases mode : g.mode with
  | free => simp
  | direct => simp
  | scaled => simp [TimeBase.retime_scaled other mode]

end Retime

/-! ### Overdue strobes -/

theorem State.issueOverdue_still {u : State} (still : u.tb.strobing = false ∨ u.tb.refTime = none) :
    u.issueOverdue = u := by
  obtain ⟨free, check⟩ := u.not_due_of_still (still.imp id .inr)
  obtain e | ⟨-, -, e⟩ | ⟨-, -, e⟩ := u.issueOverdue_cases
  · exact e
  · rw [e, freeStrobe_early free]
  · rw [e, fallbackCheck_early check]

section Overdue

variable {u : State} {g : Timing} {ref : Micros} (strobing : u.tb.strobing = true) (timing : u.tb.timing = some g)
  (reference : u.tb.refTime = some ref)
include timing reference

theorem State.issueOverdue_internal_early (internal : u.tb.internallyTimed = true) (early : u.since ref ≤ g.rate.period) :
    u.issueOverdue = u := by
  have near : ¬u.refPassed (u.tb.period + 1) = true := by
    simpa [State.refPassed_eq reference, TimeBase.period_eq timing] using early
  rw [State.issueOverdue, if_pos internal, if_neg near]

theorem State.issueOverdue_edge_early (edge : ¬u.tb.internallyTimed = true) (early : u.since ref ≤ 4 * g.rate.period) :
    u.issueOverdue = u := by
  have near : ¬u.refPassed (4 * u.tb.period + 1) = true := by
    simpa [State.refPassed_eq reference, TimeBase.period_eq timing] using early
  rw [State.issueOverdue, if_neg edge, if_neg near]

include strobing

theorem State.issueOverdue_internal (internal : u.tb.internallyTimed = true) (passed : g.rate.period < u.since ref) :
    u.issueOverdue = u.issueStrobe u.tb.counter (g.mode ≠ .free) none := by
  have past : u.refPassed (u.tb.period + 1) = true := by
    simpa [State.refPassed_eq reference, TimeBase.period_eq timing] using passed
  have due := (State.freeStrobeDue_running strobing timing reference).2
    ⟨(TimeBase.internallyTimed_iff timing).1 internal, passed.le⟩
  rw [State.issueOverdue, if_pos internal, if_pos past, freeStrobe_due due, TimeBase.indicatesFallback_eq timing]

theorem State.issueOverdue_edge (direct : g.mode = .direct) (edge : u.tb.fallback = .edge)
    (passed : 4 * g.rate.period < u.since ref) : u.issueOverdue = u.fellBack := by
  have external : ¬u.tb.internallyTimed = true := by simp [TimeBase.internallyTimed_iff timing, direct, edge]
  have past : u.refPassed (4 * u.tb.period + 1) = true := by
    simpa [State.refPassed_eq reference, TimeBase.period_eq timing] using passed
  have due := (State.fallbackCheckDue_running strobing timing reference).2 ⟨direct, edge, passed.le⟩
  rw [State.issueOverdue, if_neg external, if_pos past, fallbackCheck_due due]

end Overdue

/-- Settles O28: the table is `TimeBase.retime`, and the overdue strobe is judged on the state it leaves. -/
theorem timingChangesFollowTheirTable : Obligations.TimingChangesFollowTheirTable := by
  refine ⟨fun s g rest power arrived same => ?_, fun s u g rest tb power arrived other table hu => ?_⟩
  · exact (exec_timingChange power arrived).trans (congrArg _ (State.changeTiming_same _ g same))
  obtain rfl : s.tb.retime g = tb := by
    obtain ⟨mode, rfl⟩ | ⟨⟨mode, before⟩, rfl⟩ | ⟨mode, rfl⟩ := table
    · exact TimeBase.retime_fresh other mode
    · exact TimeBase.retime_direct other mode before
    · exact TimeBase.retime_scaled other mode
  have run : exec .timingChange s = .next u.issueOverdue := by
    rw [hu]
    exact (exec_timingChange power arrived).trans (congrArg _ (State.changeTiming_other _ g other))
  have utb : u.tb = s.tb.retime g := by rw [hu]
  have counter : s.tb.counter = u.tb.counter := by rw [utb]; exact (TimeBase.retime_sameStrobe s g).counter.symm
  have timing : u.tb.timing = some g := by rw [utb]; exact TimeBase.retime_timing other
  have internal := TimeBase.retime_internallyTimed other
  rw [run, counter, ← utb]
  rw [← utb] at internal
  refine ⟨fun still => ?_, fun ref strobing reference => ⟨fun timed => ⟨fun early => ?_, fun passed => ?_⟩,
    fun direct edge => ⟨fun early => ?_, fun passed => ?_⟩⟩⟩
  · rw [State.issueOverdue_still still]
  · rw [State.issueOverdue_internal_early timing reference (internal.2 timed) early]
  · rw [State.issueOverdue_internal strobing timing reference (internal.2 timed) passed]
  · rw [State.issueOverdue_edge_early timing reference (by simp [internal, direct, edge]) early]
  · rw [State.issueOverdue_edge strobing timing reference direct edge passed]
    rfl

end Sys2Proof.Machine

/-! SUPPORT. Proofs about the configuration: the bytes of an image, the validation of a staged image and its activation,
and the lease with its waiters. -/

namespace Sys2Proof.Machine

-- One theorem at a time: the check gives every concurrent one a large stack of its own.
set_option Elab.async false

/-! ## Fields within a string of bytes (R185) -/

theorem beNat_append_singleton (bytes : List Byte) (b : Byte) : beNat (bytes ++ [b]) = beNat bytes * 256 + b.toNat := by
  simp [beNat]

/-- The bytes of a number, split before the least significant one. -/
theorem beBytes_succ (n v : Nat) : beBytes (n + 1) v = beBytes n (v / 256) ++ [BitVec.ofNat 8 v] := by
  induction n with
  | zero => rfl
  | succ n ih =>
    have top : v >>> (8 * (n + 1)) = (v / 256) >>> (8 * n) := by
      rw [Nat.mul_succ, Nat.add_comm, Nat.shiftRight_add, Nat.shiftRight_eq_div_pow v 8]
    rw [beBytes, ih, top]
    rfl

/-- The bytes of a number that they have room for spell it again. -/
theorem beNat_beBytes {n v : Nat} (room : v < 2 ^ (8 * n)) : beNat (beBytes n v) = v := by
  induction n generalizing v with
  | zero => exact (Nat.lt_one_iff.1 room).symm
  | succ n ih =>
    have upper : v / 256 < 2 ^ (8 * n) := by
      rw [Nat.mul_succ, pow_add] at room
      exact Nat.div_lt_of_lt_mul (by rwa [Nat.mul_comm] at room)
    rw [beBytes_succ, beNat_append_singleton, ih upper, BitVec.toNat_ofNat]
    omega

/-- A string of bytes holds `part` from `at_` on. -/
def HoldsAt (bytes : List Byte) (at_ : Nat) (part : List Byte) : Prop := part <+: bytes.drop at_

theorem holdsAt_self (bytes : List Byte) : HoldsAt bytes 0 bytes := List.prefix_rfl

/-- Two parts stand in a row where each stands at its place. -/
theorem holdsAt_append {bytes : List Byte} {at_ : Nat} {first second : List Byte} :
    HoldsAt bytes at_ (first ++ second) ↔ HoldsAt bytes at_ first ∧ HoldsAt bytes (at_ + first.length) second := by
  unfold HoldsAt
  rw [← List.drop_drop]
  refine ⟨fun h => ⟨(List.prefix_append ..).trans h, ?_⟩, fun ⟨h, h'⟩ => ?_⟩
  · obtain ⟨rest, h⟩ := h
    exact ⟨rest, by rw [← h, List.append_assoc, List.drop_left]⟩
  · obtain ⟨rest, h⟩ := h
    rw [← h, List.drop_left] at h'
    rw [← h]
    exact (List.prefix_append_right_inj first).2 h'

section Parts

variable {bytes : List Byte} {at_ : Nat}

theorem HoldsAt.byteAt_eq {b : Byte} (h : HoldsAt bytes at_ [b]) : byteAt bytes at_ = b := by
  obtain ⟨rest, h⟩ := h
  have found : (bytes.drop at_)[0]? = some b := by rw [← h]; rfl
  rw [List.getElem?_drop] at found
  exact congrArg (·.getD 0#8) found

/-- A field with room for its value is read back from where it stands. -/
theorem HoldsAt.payloadField_eq {w n : Nat} {v : BitVec w} (room : w ≤ 8 * n) (h : HoldsAt bytes at_ (field n v)) :
    payloadField w bytes at_ n = v := by
  have taken : (bytes.drop at_).take n = field n v := by
    have := List.prefix_iff_eq_take.1 h
    rw [Laws.length_field] at this
    exact this.symm
  have fits : v.toNat < 2 ^ (8 * n) := v.isLt.trans_le (Nat.pow_le_pow_right (by decide) room)
  rw [payloadField, numberAt, taken, field, beNat_beBytes fits, BitVec.ofNat_toNat, BitVec.setWidth_eq]

end Parts

/-! ## Images as bytes (section 11.7) -/

@[simp] theorem length_tripleBytes {w : Nat} (n : Nat) (t : Triple (BitVec w)) : (tripleBytes n t).length = 3 * n := by
  simp [tripleBytes, Triple.toList]
  omega

/-- A matrix is sent by its rows (R65). -/
theorem matBytes_eq {w : Nat} (n : Nat) (m : Mat3 (BitVec w)) :
    matBytes n m = tripleBytes n m.x ++ (tripleBytes n m.y ++ tripleBytes n m.z) := by
  simp [matBytes, Mat3.toList, tripleBytes]

@[simp] theorem length_matBytes {w : Nat} (n : Nat) (m : Mat3 (BitVec w)) : (matBytes n m).length = 9 * n := by
  simp [matBytes_eq]
  omega

@[simp] theorem UserRecord.length_bytes (u : UserRecord) : u.bytes.length = 96 := by simp [UserRecord.bytes]

@[simp] theorem Image.length_bytes (i : Image) : i.bytes.length = 208 := by simp [Image.bytes]

section Parts

variable {bytes : List Byte} {at_ : Nat}

theorem HoldsAt.tripleAt_eq {t : Triple (BitVec 32)} (h : HoldsAt bytes at_ (tripleBytes 4 t)) :
    tripleAt bytes at_ = t := by
  have row : tripleBytes 4 t = field 4 t.x ++ (field 4 t.y ++ field 4 t.z) := by simp [tripleBytes, Triple.toList]
  simp only [row, holdsAt_append, Laws.length_field] at h
  obtain ⟨hx, hy, hz⟩ := h
  rw [tripleAt, payloadTriple, hx.payloadField_eq le_rfl, hy.payloadField_eq le_rfl, hz.payloadField_eq le_rfl]

theorem HoldsAt.matAt_eq {m : Mat3 (BitVec 32)} (h : HoldsAt bytes at_ (matBytes 4 m)) : matAt bytes at_ = m := by
  simp only [matBytes_eq, holdsAt_append, length_tripleBytes] at h
  obtain ⟨hx, hy, hz⟩ := h
  rw [matAt, hx.tripleAt_eq, hy.tripleAt_eq, hz.tripleAt_eq]

theorem HoldsAt.userRecord_eq {u : UserRecord} (h : HoldsAt bytes at_ u.bytes) : UserRecord.ofBytes bytes at_ = u := by
  simp only [UserRecord.bytes, List.append_assoc, holdsAt_append, length_tripleBytes, length_matBytes, Nat.add_assoc,
    Nat.reduceAdd, Nat.reduceMul] at h
  obtain ⟨gyroTrim, accelTrim, gyroAlign, accelAlign⟩ := h
  rw [UserRecord.ofBytes, gyroTrim.tripleAt_eq, accelTrim.tripleAt_eq, gyroAlign.matAt_eq, accelAlign.matAt_eq]

end Parts

theorem SourceMode.ofCode_code (m : SourceMode) : SourceMode.ofCode m.code = some m := by cases m <;> rfl

theorem SyncMode.ofCode_code (m : SyncMode) : SyncMode.ofCode m.code = some m := by cases m <;> rfl

theorem Rate.ofCode_code (g : Rate) : Rate.ofCode g.code = some g := by cases g <;> rfl

/-- Settles O12: each part of the image is read back from its offset. -/
theorem everyImageIsReadBackFromItsBytes : Obligations.EveryImageIsReadBackFromItsBytes := by
  refine fun i => ⟨i.length_bytes, ?_⟩
  have parts := holdsAt_self i.bytes
  nth_rw 2 [Image.bytes] at parts
  simp only [List.append_assoc, holdsAt_append, UserRecord.length_bytes, Laws.length_field, List.length_singleton,
    Nat.reduceAdd] at parts
  obtain ⟨userA, userB, mode, holdOff, gyro, accel, rate, sync, scale⟩ := parts
  rw [Image.ofBytes, if_pos i.length_bytes, userA.userRecord_eq, userB.userRecord_eq, mode.byteAt_eq,
    holdOff.payloadField_eq le_rfl, gyro.payloadField_eq le_rfl, accel.payloadField_eq le_rfl,
    rate.payloadField_eq le_rfl, sync.byteAt_eq, scale.payloadField_eq le_rfl, SourceMode.ofCode_code,
    Rate.ofCode_code, SyncMode.ofCode_code]

/-! ## The validation of a staged image (R136) -/

theorem Timing.scaleValid_iff (t : Timing) :
    t.scaleValid = true ↔ (t.mode = .scaled → 1 ≤ t.scale.toNat ∧ t.scale.toNat ≤ 4000) := by
  simp [Timing.scaleValid, imp_iff_not_or]

/-- The diagonal coefficients of an alignment matrix, each with its place. -/
def diagonalOf (x : Head) (sensor : Sensor) (m : Mat3 (BitVec 32)) : List (Head × Sensor × Fin 3 × BitVec 32) :=
  [(x, sensor, 0, m.x.x), (x, sensor, 1, m.y.y), (x, sensor, 2, m.z.z)]

/-- The diagonal coefficients in the order in which they are examined (R136). -/
def Image.diagonals (i : Image) : List (Head × Sensor × Fin 3 × BitVec 32) :=
  diagonalOf .A .gyro i.user.a.gyroAlign ++ (diagonalOf .A .accel i.user.a.accelAlign
    ++ (diagonalOf .B .gyro i.user.b.gyroAlign ++ diagonalOf .B .accel i.user.b.accelAlign))

/-- The fault that a zero coefficient is. -/
def faultAt (e : Head × Sensor × Fin 3 × BitVec 32) : ConfigFault := .alignmentDiagonal e.1 e.2.1 e.2.2.1

/-- The first zero coefficient of a list, as a fault. -/
def firstZero (coefficients : List (Head × Sensor × Fin 3 × BitVec 32)) : Option ConfigFault :=
  (coefficients.find? fun e => e.2.2.2 = 0#32).map faultAt

theorem firstZero_append (l m : List (Head × Sensor × Fin 3 × BitVec 32)) :
    firstZero (l ++ m) = (firstZero l).or (firstZero m) := by
  rw [firstZero, List.find?_append, Option.map_or, firstZero, firstZero]

theorem firstZero_diagonalOf (x : Head) (sensor : Sensor) (m : Mat3 (BitVec 32)) :
    firstZero (diagonalOf x sensor m) = (zeroDiagonal m).map (.alignmentDiagonal x sensor) := by
  unfold zeroDiagonal
  split_ifs with hx hy hz <;> simp [firstZero, diagonalOf, faultAt, *]

theorem firstZero_eq_none {l : List (Head × Sensor × Fin 3 × BitVec 32)} :
    firstZero l = none ↔ ∀ e ∈ l, e.2.2.2 ≠ 0#32 := by
  simp [firstZero]

/-- A zero coefficient is the fault when no coefficient before it is zero. -/
theorem firstZero_eq_some {l : List (Head × Sensor × Fin 3 × BitVec 32)} {x : Head} {sensor : Sensor} {row : Fin 3} :
    firstZero l = some (.alignmentDiagonal x sensor row) ↔
      ∃ before after, l = before ++ (x, sensor, row, 0#32) :: after ∧ ∀ e ∈ before, e.2.2.2 ≠ 0#32 := by
  rw [firstZero, Option.map_eq_some_iff]
  simp only [List.find?_eq_some_iff_append]
  constructor
  · rintro ⟨⟨y, other, line, v⟩, ⟨zero, before, after, split, clear⟩, fault⟩
    obtain rfl : v = 0#32 := by simpa using zero
    cases fault
    exact ⟨before, after, split, by simpa using clear⟩
  · rintro ⟨before, after, split, clear⟩
    exact ⟨_, ⟨by simp, before, after, split, by simpa using clear⟩, rfl⟩

theorem firstZero_ne_scaleFactor (l : List (Head × Sensor × Fin 3 × BitVec 32)) :
    firstZero l ≠ some .scaleFactor := by
  simp [firstZero, faultAt]

/-- The scale factor is examined first, then the diagonals in their order (R136). -/
theorem Image.fault_eq (i : Image) :
    i.fault = if i.timing.scaleValid then firstZero i.diagonals else some .scaleFactor := by
  simp only [Image.fault, Image.diagonals, firstZero_append, firstZero_diagonalOf, ite_not]

theorem Image.fault_scaleFactor_iff (i : Image) : i.fault = some .scaleFactor ↔ ¬i.timing.scaleValid = true := by
  rw [Image.fault_eq]
  split
  · next valid => simp [valid, firstZero_ne_scaleFactor]
  · next invalid => simp [invalid]

/-- Any other verdict is that of the diagonals, the scale factor being valid. -/
theorem Image.fault_other_iff (i : Image) {verdict : Option ConfigFault} (other : verdict ≠ some .scaleFactor) :
    i.fault = verdict ↔ i.timing.scaleValid = true ∧ firstZero i.diagonals = verdict := by
  rw [Image.fault_eq]
  split
  · next valid => simp [valid]
  · next invalid => simp [invalid, other.symm]

theorem diagonalOf_forall {x : Head} {sensor : Sensor} {m : Mat3 (BitVec 32)} :
    (∀ e ∈ diagonalOf x sensor m, e.2.2.2 ≠ 0#32) ↔ m.x.x ≠ 0#32 ∧ m.y.y ≠ 0#32 ∧ m.z.z ≠ 0#32 := by
  simp [diagonalOf]

/-! ## ACTIVATE (R136, R137) -/

section Activate

variable {p : Port} {s : State} {l : Lease} (hl : s.cfg.lease = some l) (holder : l.holder = p)
include hl holder

theorem activate_invalid {reason : ConfigFault} (bad : l.staged.fault = some reason) :
    activate p s = answer s .invalidConfig (.invalidConfig reason) := by
  simp only [activate, asHolder_holder _ hl holder, bad]

theorem activate_valid (good : l.staged.fault = none) :
    activate p s = ⟨s.activateImage l.staged, .activated, .epoch (s.cfg.epoch + 1)⟩ := by
  simp only [activate, asHolder_holder _ hl holder, good]

end Activate

/-- Settles O54: the request by the verdict of `Image.fault`, and the verdict by the first zero of the diagonals. -/
theorem activatePlacesAValidStagedImage : Obligations.ActivatePlacesAValidStagedImage := by
  refine ⟨fun r s ready => ⟨fun other => ?_, fun l hl holder => ⟨fun reason bad => ?_, fun good => ?_⟩⟩,
    fun i => ⟨?_, ?_, fun x sensor row => ?_⟩⟩
  · exact requestEnd_reported ready (asHolder_notHolder _ (by rwa [State.served_cfg]))
  · exact requestEnd_reported ready (activate_invalid (by rwa [State.served_cfg]) holder bad)
  · refine requestEnd_answer (carry := activate r.port) ready ?_ rfl
    rw [activate_valid (by rwa [State.served_cfg]) holder good, State.activateImage, State.served_cfg,
      State.served_arrivals]
  · rw [Image.fault_scaleFactor_iff, Timing.scaleValid_iff]
    have zero : i.timing.scale = 0#16 ↔ i.timing.scale.toNat = 0 := BitVec.toNat_eq
    rw [Classical.not_imp, zero]
    exact and_congr_right fun _ => by omega
  · rw [i.fault_other_iff (verdict := none) nofun, Timing.scaleValid_iff, firstZero_eq_none]
    simp only [Image.diagonals, List.forall_mem_append, diagonalOf_forall, List.forall_mem_cons, List.not_mem_nil,
      false_imp_iff, implies_true, and_true]
  · rw [i.fault_other_iff (verdict := some (.alignmentDiagonal ..)) nofun, Timing.scaleValid_iff, firstZero_eq_some]
    rfl

/-! ## LEASE_ACQUIRE (R123) -/

/-- A port's place in the queue is one behind the waiters before its own entry. -/
theorem ConfigUnit.waiterPosition_eq_some {c : ConfigUnit} {p : Port} {before after : List Waiter} {w : Waiter}
    (split : c.waiters = before ++ w :: after) (own : w.port = p) (fresh : p ∉ before.map Waiter.port) :
    c.waiterPosition p = some (before.length + 1) := by
  have unfound : before.findIdx? (fun v => decide (v.port = p)) = none :=
    List.findIdx?_eq_none_iff.2 fun v hv => decide_eq_false fun e => fresh (e ▸ List.mem_map_of_mem hv)
  rw [ConfigUnit.waiterPosition, split, List.findIdx?_append, unfound]
  simp [List.findIdx?_cons, own]

theorem ConfigUnit.waiterPosition_eq_none {c : ConfigUnit} {p : Port} (absent : p ∉ c.waiters.map Waiter.port) :
    c.waiterPosition p = none :=
  Option.not_isSome_iff_eq_none.1 fun found => absent ((c.waiterPosition_isSome p).1 found)

section LeaseAcquire

variable {p : Port} {tag wait : Byte} {period : BitVec 16} {s : State}

theorem leaseAcquire_outOfRange (bad : period.toNat < 100 ∨ 60000 < period.toNat) :
    leaseAcquire p tag wait period s = answer s .outOfRange := if_pos bad

variable (good : ¬(period.toNat < 100 ∨ 60000 < period.toNat))
include good

theorem leaseAcquire_granted (free : s.cfg.lease = none) :
    leaseAcquire p tag wait period s = ⟨s.grant p period, .granted, .leasePeriod period s.cfg.epoch⟩ := by
  simp only [leaseAcquire, if_neg good, free]

variable {l : Lease} (hl : s.cfg.lease = some l)
include hl

theorem leaseAcquire_renewed (holder : l.holder = p) :
    leaseAcquire p tag wait period s =
      ⟨{ s with cfg := { s.cfg with lease := some { l with expiry := s.expiryAfter period } } }, .renewed,
        .leasePeriod period s.cfg.epoch⟩ := by
  simp only [leaseAcquire, if_neg good, hl, if_pos holder]

variable (other : l.holder ≠ p)
include other

theorem leaseAcquire_alreadyQueued {n : Nat} (place : s.cfg.waiterPosition p = some n) :
    leaseAcquire p tag wait period s = answer s .alreadyQueued (.leaseQueued l.holder n) := by
  simp only [leaseAcquire, if_neg good, hl, if_neg other, place]

variable (absent : p ∉ s.cfg.waiters.map Waiter.port)
include absent

theorem leaseAcquire_heldElsewhere (noWait : wait = 0#8) :
    leaseAcquire p tag wait period s = answer s .heldElsewhere (.leaseHolder l.holder) := by
  simp only [leaseAcquire, if_neg good, hl, if_neg other, ConfigUnit.waiterPosition_eq_none absent, if_pos noWait]

theorem leaseAcquire_queued (waits : wait ≠ 0#8) :
    leaseAcquire p tag wait period s =
      ⟨{ s with cfg := { s.cfg with waiters := s.cfg.waiters ++ [⟨p, tag, period⟩] } }, .queued,
        .leaseQueued l.holder (s.cfg.waiters.length + 1)⟩ := by
  simp only [leaseAcquire, if_neg good, hl, if_neg other, ConfigUnit.waiterPosition_eq_none absent, if_neg waits]

end LeaseAcquire

/-- The state in which a request is taken has the counter of its transaction's end. -/
theorem State.served_expiryAfter (s : State) (r : Req) (k : RequestKind) (period : BitVec 16) :
    (s.served r k).expiryAfter period = s.tb.counter + BitVec.ofNat 48 (1000 * period.toNat) := by
  rw [State.expiryAfter, State.now, State.served_tb]

/-! ## LEASE_RELEASE and LEASE_EXPIRY (R124, R125) -/

section LeaseRelease

variable {p : Port} {s : State}

theorem leaseRelease_released (holds : s.cfg.holds p = true) : leaseRelease p s = ⟨s.endLease, .released, .none⟩ :=
  if_pos holds

variable (other : s.cfg.holds p = false)
include other

theorem leaseRelease_cancelled (waits : p ∈ s.cfg.waiters.map Waiter.port) :
    leaseRelease p s = ⟨{ s with cfg := s.cfg.withoutWaiter p }, .cancelled, .none⟩ := by
  rw [leaseRelease, if_neg (Bool.eq_false_iff.1 other), if_pos ((s.cfg.waiterPosition_isSome p).2 waits)]

theorem leaseRelease_notHolder (absent : p ∉ s.cfg.waiters.map Waiter.port) :
    leaseRelease p s = answer s .notHolder := by
  rw [leaseRelease, if_neg (Bool.eq_false_iff.1 other), if_neg (mt (s.cfg.waiterPosition_isSome p).1 absent)]

end LeaseRelease

section LeaseExpiry

variable {s : State}

theorem leaseExpiry_free (free : s.cfg.lease = none) : leaseExpiry s = s := by
  simp only [leaseExpiry, free]

variable {l : Lease} (hl : s.cfg.lease = some l)
include hl

theorem State.leaseExpiryDue_iff : s.leaseExpiryDue = true ↔ s.since l.expiry < 2 ^ 47 := by
  simp only [State.leaseExpiryDue, hl, decide_eq_true_eq]

theorem leaseExpiry_due (due : s.since l.expiry < 2 ^ 47) :
    leaseExpiry s = (s.raisePort .leaseExpired l.holder).endLease := by
  simp only [leaseExpiry, hl, if_pos ((State.leaseExpiryDue_iff hl).2 due)]

theorem leaseExpiry_early (early : 2 ^ 47 ≤ s.since l.expiry) : leaseExpiry s = s := by
  simp only [leaseExpiry, hl, if_neg (mt (State.leaseExpiryDue_iff hl).1 (not_lt.2 early))]

end LeaseExpiry

/-- Settles O52: each request and the expiry by the cases of CFG's function; a lease that ends is `endLease`. -/
theorem theLeaseHasItsCasesAndPassesToTheOldestWaiter : Obligations.TheLeaseHasItsCasesAndPassesToTheOldestWaiter := by
  refine ⟨fun r wait period s ready => ?_,
    fun r s ready => ⟨fun holds => ?_, fun other waits => ?_, fun other absent => ?_⟩,
    fun s l power hl => ⟨fun due => ?_, fun early => ?_⟩, fun s power free => ?_,
    fun s => ⟨s.endLease_free, s.endLease_waiter⟩⟩
  · have cfg : (s.served r .leaseAcquire).cfg = s.cfg := State.served_cfg ..
    have refused {result : Result} {payload : Payload} :=
      requestEnd_reported (result := result) (payload := payload)
        (carry := leaseAcquire r.port r.tag wait period) ready
    have carried {u : State} {result : Result} {payload : Payload} :=
      requestEnd_answer (u := u) (result := result) (payload := payload)
        (carry := leaseAcquire r.port r.tag wait period) ready
    refine ⟨fun bad => refused (leaseAcquire_outOfRange bad), fun low high => ?_⟩
    have good : ¬(period.toNat < 100 ∨ 60000 < period.toNat) := by omega
    refine ⟨fun free => carried ?_ rfl, fun l hl holder => carried ?_ rfl, fun l hl other =>
      ⟨fun before w after split own fresh => refused ?_, fun absent => ⟨fun noWait => refused ?_,
        fun waits => carried ?_ rfl⟩⟩⟩
    · rw [leaseAcquire_granted good (by rwa [cfg]), State.grant, State.served_expiryAfter, cfg]
    · rw [leaseAcquire_renewed good (by rwa [cfg]) holder, State.served_expiryAfter, cfg]
    · exact leaseAcquire_alreadyQueued good (by rwa [cfg]) other
        (ConfigUnit.waiterPosition_eq_some (by rwa [cfg]) own fresh)
    · exact leaseAcquire_heldElsewhere good (by rwa [cfg]) other (by rwa [cfg]) noWait
    · rw [leaseAcquire_queued good (by rwa [cfg]) other (by rwa [cfg]) waits, cfg]
  · exact requestEnd_answer ready (leaseRelease_released (by rwa [State.served_cfg])) (State.endLease_ports _)
  · refine requestEnd_answer (carry := leaseRelease r.port) ready ?_ rfl
    rw [leaseRelease_cancelled (by rwa [State.served_cfg]) (by rwa [State.served_cfg]), State.served_cfg]
    rfl
  · exact requestEnd_reported ready
      (leaseRelease_notHolder (by rwa [State.served_cfg]) (by rwa [State.served_cfg]))
  · exact (whileRunning_running leaseExpiry s power).trans (congrArg _ (leaseExpiry_due hl due))
  · exact whileRunning_same (leaseExpiry_early hl early)
  · exact whileRunning_same (leaseExpiry_free free)

end Sys2Proof.Machine

/-! SUPPORT. Proofs about the calibration store: what leaves STORE and the medium alone, the newest VALID slot of the
medium, the load and the phases of a commit, part reset, and the requests that are not carried out. -/

namespace Sys2Proof.Machine

-- One theorem at a time: the check gives every concurrent one a large stack of its own.
set_option Elab.async false

/-! ## Commands that leave STORE and the medium alone -/

/-- From `s` to `t` STORE and the medium stand. -/
@[simp] abbrev State.SameStore (s t : State) : Prop := t.store = s.store ∧ t.medium = s.medium

theorem State.SameStore.trans {s t u : State} (h : s.SameStore t) (g : t.SameStore u) : s.SameStore u :=
  ⟨g.1.trans h.1, g.2.trans h.2⟩

section Frame

variable (s : State) (p : Port) (x : Head)

theorem State.foldl_sameStore {α : Type} {f : State → α → State} (h : ∀ u a, State.SameStore u (f u a))
    (l : List α) : s.SameStore (l.foldl f s) :=
  List.foldlRecOn (motive := s.SameStore) l f ⟨rfl, rfl⟩ fun _ hu a _ => hu.trans (h _ a)

theorem State.raise_sameStore (c : Cond) : s.SameStore (s.raise c) := ⟨rfl, rfl⟩

theorem State.reportCommit_sameStore (c : Commit) (result : Result) : s.SameStore (s.reportCommit c result) := by simp

/-! ### Transactions and ports -/

/-- The end of a transaction leaves STORE alone when what takes its request does. -/
theorem State.endTransaction_sameStore {n : Nat} {take : Bool → State → State}
    (h : ∀ early u, State.SameStore u (take early u)) : s.SameStore (s.endTransaction p n take) := by
  fun_cases State.endTransaction
  · simp
  · exact .trans (by simp) (h _ _)

@[simp] theorem chipSelectFall_sameStore (sooner : Bool) : s.SameStore (chipSelectFall p sooner s) := by
  fun_cases chipSelectFall <;> simp

@[simp] theorem takeMalformed_sameStore (bytes : List Byte) (found : Received) (early : Bool) :
    s.SameStore (takeMalformed p bytes found early s) := by
  fun_cases takeMalformed <;> simp

@[simp] theorem completionArrival_sameStore (index : Nat) : s.SameStore (completionArrival index s) := by
  fun_cases completionArrival <;> simp

@[simp] theorem setAttention_sameStore (mask : Byte) : s.SameStore (setAttention p mask s).state := by
  fun_cases setAttention <;> simp

/-! ### History and conditions -/

@[simp] theorem histRead_sameStore (max : Byte) : s.SameStore (histRead p max s).state := by
  fun_cases histRead <;> simp +zetaDelta

@[simp] theorem histPeek_sameStore : s.SameStore (histPeek p s).state := by
  fun_cases histPeek <;> simp

@[simp] theorem histSeek_sameStore (form : Byte) (n : PubNum) : s.SameStore (histSeek p form n s).state := by
  fun_cases histSeek <;> simp +zetaDelta

@[simp] theorem histWatermark_sameStore (value : BitVec 16) : s.SameStore (histWatermark p value s).state := by
  fun_cases histWatermark <;> simp +zetaDelta

@[simp] theorem State.overrunPort_sameStore (dropped : PubNum) : s.SameStore (s.overrunPort dropped p) := by
  fun_cases State.overrunPort <;> simp

@[simp] theorem State.appendRecord_sameStore (q : Publication) : s.SameStore (s.appendRecord q) := by
  unfold State.appendRecord
  split <;> simp [State.dropOldest]

@[simp] theorem appendArrival_sameStore : s.SameStore (appendArrival s) := by
  fun_cases appendArrival <;> simp

@[simp] theorem levelArrival_sameStore : s.SameStore (levelArrival s) := by
  fun_cases levelArrival
  · simp
  · exact .trans (by simp) (State.foldl_sameStore _ (by simp) _)

/-! ### Delta contexts -/

@[simp] theorem State.liveAt_sameStore (q : Publication) (n : CtxNum) : s.SameStore (s.liveAt q n) := by
  rw [State.liveAt_eq, State.entryAt_eq]
  simp

@[simp] theorem State.dropAt_sameStore (dropped : PubNum) (n : CtxNum) : s.SameStore (s.dropAt dropped n) := by
  rw [State.dropAt_eq, State.entryAt_eq]
  simp

@[simp] theorem deltaArrival_sameStore : s.SameStore (deltaArrival s) := by
  fun_cases deltaArrival
  · simp
  · exact .trans (by simp) (State.foldl_sameStore _ (by simp) _)

@[simp] theorem dropArrival_sameStore : s.SameStore (dropArrival s) := by
  fun_cases dropArrival
  · simp
  · exact .trans (by simp) (State.foldl_sameStore _ (by simp) _)

@[simp] theorem State.finishWalk_sameStore (n : CtxNum) (e : Entry) : s.SameStore (s.finishWalk n e) := by
  fun_cases State.finishWalk <;> simp

@[simp] theorem walkStep_sameStore (n : CtxNum) : s.SameStore (walkStep n s) := by
  fun_cases walkStep <;> simp

@[simp] theorem deltaOpen_sameStore (tag : Byte) (label period : BitVec 16) (form : Byte) (n : PubNum) :
    s.SameStore (deltaOpen p tag label period form n s).state := by
  fun_cases deltaOpen <;> simp

@[simp] theorem deltaTake_sameStore (ctx : Byte) : s.SameStore (deltaTake p ctx s).state := by
  fun_cases deltaTake <;> simp

@[simp] theorem deltaCollect_sameStore (ctx : Byte) : s.SameStore (deltaCollect p ctx s).state := by
  fun_cases deltaCollect <;> simp

@[simp] theorem deltaClose_sameStore (ctx discard : Byte) : s.SameStore (deltaClose p ctx discard s).state := by
  fun_cases deltaClose <;> simp

@[simp] theorem deltaStatus_sameStore (ctx : Byte) : s.SameStore (deltaStatus p ctx s).state := by
  fun_cases deltaStatus <;> simp

/-! ### The lease, the staged image and calibration records -/

@[simp] theorem leaseAcquire_sameStore (tag wait : Byte) (period : BitVec 16) :
    s.SameStore (leaseAcquire p tag wait period s).state := by
  fun_cases leaseAcquire <;> simp

@[simp] theorem leaseRelease_sameStore : s.SameStore (leaseRelease p s).state := by
  fun_cases leaseRelease <;> simp

@[simp] theorem leaseExpiry_sameStore : s.SameStore (leaseExpiry s) := by
  fun_cases leaseExpiry <;> simp

/-- A staging request leaves STORE alone when its holder's part does. -/
theorem asHolder_sameStore {f : Lease → Answer} (h : ∀ l, s.SameStore (f l).state) :
    s.SameStore (asHolder p s f).state := by
  fun_cases asHolder
  · simp
  · exact h _
  · simp

@[simp] theorem State.stage_sameStore (l : Lease) (image : Image) : s.SameStore (s.stage l image).state := ⟨rfl, rfl⟩

@[simp] theorem stageCal_sameStore (head group : Byte) (values : Mat3 (BitVec 32)) :
    s.SameStore (stageCal p head group values s).state := by
  refine asHolder_sameStore s p fun l => ?_
  split
  · simp [badField]
  · simp [badField]
  · split <;> simp [badField]

@[simp] theorem stageSource_sameStore (mode : Byte) (holdOff : BitVec 16) :
    s.SameStore (stageSource p mode holdOff s).state := by
  refine asHolder_sameStore s p fun l => ?_
  split <;> simp [badField]

@[simp] theorem stageThresholds_sameStore (gyro accel : BitVec 32) : s.SameStore (stageThresholds p gyro accel s).state := by
  refine asHolder_sameStore s p fun l => ?_
  split
  · simp [badField]
  · split <;> simp [badField]

@[simp] theorem stageTiming_sameStore (rate : BitVec 16) (mode : Byte) (scale : BitVec 16) :
    s.SameStore (stageTiming p rate mode scale s).state := by
  refine asHolder_sameStore s p fun l => ?_
  split <;> simp [badField]

@[simp] theorem stageRead_sameStore : s.SameStore (stageRead p s).state := asHolder_sameStore s p fun _ => ⟨rfl, rfl⟩

@[simp] theorem stageDiscard_sameStore : s.SameStore (stageDiscard p s).state :=
  asHolder_sameStore s p fun l => s.stage_sameStore l _

@[simp] theorem activate_sameStore : s.SameStore (activate p s).state := by
  refine asHolder_sameStore s p fun l => ?_
  split <;> simp

@[simp] theorem calRead_sameStore (head form : Byte) : s.SameStore (calRead p head form s).state := by
  fun_cases calRead <;> simp

/-! ### Windows and head links -/

@[simp] theorem State.openWindow_sameStore (strobe : Strobe) : s.SameStore (s.openWindow strobe) := by
  fun_cases State.openWindow <;> simp +zetaDelta

@[simp] theorem State.strobeAtSel_sameStore (strobe : Strobe) : s.SameStore (s.strobeAtSel strobe) := by
  unfold State.strobeAtSel
  split <;> simp

@[simp] theorem strobeArrival_sameStore : s.SameStore (strobeArrival s) := by
  fun_cases strobeArrival <;> simp

@[simp] theorem State.recordFrame_sameStore (f : SampleFrame) : s.SameStore (s.recordFrame x f) := by
  fun_cases State.recordFrame <;> simp +zetaDelta

@[simp] theorem State.keepIdentifying_sameStore : s.SameStore (s.keepIdentifying x) := by
  fun_cases State.keepIdentifying <;> simp

@[simp] theorem State.checkSilence_sameStore : s.SameStore (s.checkSilence x) := by
  fun_cases State.checkSilence <;> simp [State.enterAbsent]

@[simp] theorem State.linkError_sameStore (e : LinkError) : s.SameStore (s.linkError x e) := by
  fun_cases State.linkError <;> simp +zetaDelta [State.enterFaulted]

@[simp] theorem sampleArrival_sameStore (f : SampleFrame) : s.SameStore (sampleArrival x f s) := by
  fun_cases sampleArrival
  · simp [State.acceptSample_eq, State.sampled]
  · simp

@[simp] theorem State.identify_sameStore (serial : BitVec 32) : s.SameStore (s.identify x serial) := by
  fun_cases State.identify <;> simp [State.enterForeign]

@[simp] theorem State.acceptResponse_sameStore (body : ResponseBody) : s.SameStore (s.acceptResponse x body) := by
  fun_cases State.acceptResponse <;> simp +zetaDelta

@[simp] theorem responseArrival_sameStore (body : ResponseBody) : s.SameStore (responseArrival x body s) := by
  fun_cases responseArrival <;> simp

@[simp] theorem brokenArrival_sameStore (bytes : List Byte) : s.SameStore (brokenArrival x bytes s) := by
  fun_cases brokenArrival <;> simp

@[simp] theorem commandTimeout_sameStore : s.SameStore (commandTimeout x s) := by
  fun_cases commandTimeout <;> simp

@[simp] theorem missArrival_sameStore : s.SameStore (missArrival x s) := by
  fun_cases missArrival <;> simp

@[simp] theorem State.strobeAt_sameStore (n : BitVec 8) : s.SameStore (s.strobeAt x n) := by
  fun_cases State.strobeAt <;> simp +zetaDelta

@[simp] theorem strobeAtLink_sameStore : s.SameStore (strobeAtLink x s) := by
  fun_cases strobeAtLink <;> simp

@[simp] theorem hostCommand_sameStore (k : CommandKind) (tag : Byte) : s.SameStore (hostCommand x k p tag s).state := by
  fun_cases hostCommand <;> simp

@[simp] theorem headIdent_sameStore (tag head : Byte) : s.SameStore (headIdent p tag head s).state := by
  fun_cases headIdent <;> simp

@[simp] theorem headTest_sameStore (tag head : Byte) : s.SameStore (headTest p tag head s).state := by
  fun_cases headTest <;> simp

/-! ### The time base -/

@[simp] theorem freeStrobe_sameStore : s.SameStore (freeStrobe s) := by
  fun_cases freeStrobe <;> simp

@[simp] theorem syncEdge_sameStore : s.SameStore (syncEdge s) := by
  fun_cases syncEdge <;> simp +zetaDelta

@[simp] theorem fallbackCheck_sameStore : s.SameStore (fallbackCheck s) := by
  fun_cases fallbackCheck <;> simp +zetaDelta

@[simp] theorem State.lockAt_sameStore (ref : LockRef) : s.SameStore (s.lockAt ref) := by
  simp [State.lockAt]

@[simp] theorem rejectPulse_sameStore : s.SameStore (rejectPulse s) := by
  simp [rejectPulse]

@[simp] theorem acquirePulse_sameStore : s.SameStore (acquirePulse s) := by
  fun_cases acquirePulse <;> simp +zetaDelta

@[simp] theorem lockedPulse_sameStore (ref : LockRef) : s.SameStore (lockedPulse ref s) := by
  fun_cases lockedPulse <;> simp

@[simp] theorem holdoverPulse_sameStore (ref : LockRef) : s.SameStore (holdoverPulse ref s) := by
  fun_cases holdoverPulse <;> simp

@[simp] theorem syncPulse_sameStore : s.SameStore (syncPulse s) := by
  fun_cases syncPulse <;> simp

@[simp] theorem scheduledStrobe_sameStore : s.SameStore (scheduledStrobe s) := by
  fun_cases scheduledStrobe <;> simp +zetaDelta

@[simp] theorem virtualOrigin_sameStore : s.SameStore (virtualOrigin s) := by
  fun_cases virtualOrigin <;> simp

@[simp] theorem holdoverDeadline_sameStore : s.SameStore (holdoverDeadline s) := by
  fun_cases holdoverDeadline <;> simp

@[simp] theorem holdoverEnd_sameStore : s.SameStore (holdoverEnd s) := by
  fun_cases holdoverEnd <;> simp

@[simp] theorem State.changeTiming_sameStore (g : Timing) : s.SameStore (s.changeTiming g) := by
  by_cases same : s.tb.timing = some g
  · simp [s.changeTiming_same g same]
  · rw [s.changeTiming_other g same]
    obtain e | ⟨-, -, e⟩ | ⟨-, -, e⟩ := State.issueOverdue_cases { s with tb := s.tb.retime g } <;> simp [e]

@[simp] theorem timingArrival_sameStore : s.SameStore (timingArrival s) := by
  fun_cases timingArrival <;> simp

@[simp] theorem State.startStrobing_sameStore (timing : Timing) : s.SameStore (s.startStrobing timing) := by
  fun_cases State.startStrobing <;> simp +zetaDelta

@[simp] theorem State.raiseLoadConditions_sameStore : s.SameStore s.raiseLoadConditions := by
  simp [State.raiseLoadConditions]

@[simp] theorem State.tick_sameStore : s.SameStore s.tick := by
  fun_cases State.tick <;> simp

end Frame

/-! ## Tables written at one index -/

theorem getElem_set_fin_same {α : Type} {m : Nat} (v : Vector α m) (i : Fin m) (a : α) : (v.set i a)[i] = a :=
  (getElem_set_fin v i i a).trans (if_pos rfl)

theorem getElem_set_fin_other {α : Type} {m : Nat} (v : Vector α m) {i j : Fin m} (a : α) (other : j ≠ i) :
    (v.set i a)[j] = v[j] := (getElem_set_fin v i j a).trans (if_neg other)

/-! ## The newest VALID slot of the medium (R141, R142) -/

/-- What a slot must hold to be loaded (R141). -/
theorem slotImage_eq_some_iff {c : SlotContents} {w : BitVec 32} {i : Image} :
    slotImage c w = some i ↔
      ∃ g bytes, c = ⟨some g, some bytes, some (slotCheck g bytes)⟩ ∧ w ≠ 0#32 ∧ g ≠ 0#32
        ∧ Image.ofBytes bytes = some i ∧ i.inRange = true := by
  constructor
  · intro h
    unfold slotImage at h
    split at h
    · next g bytes check hg hb hc =>
      split at h
      · next ok =>
        obtain ⟨written, nonzero, rfl⟩ := ok
        split at h
        · next image hi =>
          split at h
          · next range =>
            cases h
            cases c
            cases hg; cases hb; cases hc
            exact ⟨g, bytes, rfl, written, nonzero, hi, range⟩
          · cases h
        · cases h
      · cases h
    · cases h
  · rintro ⟨g, bytes, rfl, written, nonzero, hi, range⟩
    simp [slotImage, written, nonzero, hi, range]

namespace Medium

variable {m m' : Medium} {n t : Slot}

theorem validGeneration_of_no_image (h : m.image n = none) : m.validGeneration n = 0 := by
  have other : classifySlot m.slots[n] m.writes[n] ≠ .valid := by
    unfold classifySlot
    rw [show slotImage m.slots[n] m.writes[n] = none from h]
    split <;> simp
  rw [validGeneration, slotGenerationOf, if_neg other]
  rfl

theorem validGeneration_pos {i : Image} (h : m.image n = some i) : 0 < m.validGeneration n := by
  rw [validGeneration_of_image h]
  obtain ⟨g, bytes, slot, -, nonzero, -⟩ := slotImage_eq_some_iff.1 h
  rw [slot]
  exact Nat.pos_of_ne_zero fun zero => nonzero (BitVec.eq_of_toNat_eq zero)

/-- A slot whose check is erased is not VALID (R148). -/
theorem validGeneration_of_unchecked (h : m.slots[n].check = none) : m.validGeneration n = 0 := by
  refine validGeneration_of_no_image (Option.eq_none_iff_forall_ne_some.2 fun i hi => ?_)
  obtain ⟨g, bytes, slot, -⟩ := slotImage_eq_some_iff.1 hi
  rw [slot] at h
  cases h

theorem validGeneration_congr (hs : m'.slots[n] = m.slots[n]) (hw : m'.writes[n] = m.writes[n]) :
    m'.validGeneration n = m.validGeneration n := by
  rw [validGeneration, validGeneration, hs, hw]

theorem newest_le_iff {k : Nat} : m.newest ≤ k ↔ ∀ n : Slot, m.validGeneration n ≤ k := by
  rw [newest, max_le_iff, Fin.forall_fin_two]

theorem validGeneration_le_newest (m : Medium) (n : Slot) : m.validGeneration n ≤ m.newest := newest_le_iff.1 le_rfl n

/-- The load takes the newest VALID slot, and finds no current slot only when none is VALID (R145). -/
theorem choose_current (m : Medium) :
    (∀ c, m.choose.current = some c → m.validGeneration c = m.newest ∧ 0 < m.newest)
      ∧ (m.choose.current = none → m.newest = 0) := by
  cases h0 : m.image 0 with
  | none =>
    have zero0 := validGeneration_of_no_image h0
    cases h1 : m.image 1 with
    | none =>
      have zero1 := validGeneration_of_no_image h1
      simp [choose_default h0 h1, newest, zero0, zero1]
    | some j =>
      have pos1 := validGeneration_pos h1
      simp [choose_second h0 h1, newest, zero0, pos1]
  | some i =>
    have pos0 := validGeneration_pos h0
    cases h1 : m.image 1 with
    | none =>
      have zero1 := validGeneration_of_no_image h1
      simp [choose_first h0 h1, newest, zero1, pos0]
    | some j =>
      rw [choose_newer h0 h1]
      by_cases newer : m.validGeneration 0 < m.validGeneration 1
      · simp [newer, newest, newer.le, pos0.trans newer]
      · simp [newer, newest, not_lt.1 newer, pos0]

/-- From `m` to `m'` one slot is left without its check, and the other as it was. -/
structure Unloads (m m' : Medium) (t : Slot) : Prop where
  unchecked : m'.slots[t].check = none
  slots : ∀ n : Slot, n ≠ t → m'.slots[n] = m.slots[n]
  writes : ∀ n : Slot, n ≠ t → m'.writes[n] = m.writes[n]

end Medium

/-! ## The operations of a commit (R147 to R151) -/

/-- The target by the four cases of R147. -/
theorem targetSlot_eq {target : Slot} {current : Option Slot} {writes : Vector (BitVec 32) 2}
    (h : (current = some 0 ∧ target = 1) ∨ (current = some 1 ∧ target = 0)
      ∨ (current = none ∧ writes[1].toNat < writes[0].toNat ∧ target = 1)
      ∨ (current = none ∧ writes[0].toNat ≤ writes[1].toNat ∧ target = 0)) : targetSlot current writes = target := by
  obtain ⟨rfl, rfl⟩ | ⟨rfl, rfl⟩ | ⟨rfl, fewer, rfl⟩ | ⟨rfl, fewer, rfl⟩ := h
  · rfl
  · rfl
  · exact if_pos fewer
  · exact if_neg (not_lt.2 fewer)

theorem targetSlot_not_current (current : Option Slot) (writes : Vector (BitVec 32) 2) :
    current ≠ some (targetSlot current writes) := by
  unfold targetSlot
  split <;> simp

theorem Store.currentGeneration_of_current {st : Store} {c : Slot} (hc : st.current = some c) :
    st.currentGeneration = st.slotGeneration[c] := by
  rw [Store.currentGeneration, hc]

/-- The generation of the current slot does not rest on the other (R147). -/
theorem Store.currentGeneration_set {st : Store} {t : Slot} (other : st.current ≠ some t) (g : BitVec 32) :
    Store.currentGeneration { st with slotGeneration := st.slotGeneration.set t g } = st.currentGeneration := by
  unfold Store.currentGeneration
  dsimp only
  split
  · rfl
  · next c hc => exact getElem_set_fin_other _ _ fun e => other (e ▸ hc)

/-- An accepted commit, with its target and its generation named (R148). -/
theorem State.beginCommit_eq {s : State} {p : Port} {tag : Byte} {target : Slot} {generation : BitVec 32}
    (ht : targetSlot s.store.current s.medium.writes = target) (hg : s.store.currentGeneration + 1 = generation) :
    s.beginCommit p tag =
      { s with
        medium :=
          { s.medium with
            writes := s.medium.writes.set target (s.medium.writes[target] + 1),
            slots := s.medium.slots.set target { s.medium.slots[target] with check := none } },
        store :=
          { s.store with
            commit := some ⟨p, tag, false, s.cfg.active, ⟨target, generation, s.cfg.epoch⟩⟩,
            slotValidity := s.store.slotValidity.set target .invalid,
            slotGeneration := s.store.slotGeneration.set target 0#32, state := .erasing,
            phaseStart := s.tb.counter } } := by
  subst ht hg
  rfl

/-- A phase is due within a commit, from its time on (R149, R150). -/
theorem State.phaseDue_iff (s : State) (state : StoreState) (n : Nat) :
    s.phaseDue state n = true ↔ s.store.state = state ∧ s.store.commit ≠ none ∧ n ≤ s.since s.store.phaseStart := by
  simp [State.phaseDue, Option.isSome_iff_ne_none, and_assoc]

/-- The read-back equals what was to be written in both fields (R150). -/
theorem Commit.matches_iff (c : Commit) (r : SlotContents) :
    c.matches (some r) = true ↔ r.generation = some c.report.generation ∧ r.image = some c.snapshot.bytes := by
  simp [Commit.matches]

theorem State.reportCommit_eq (s : State) (c : Commit) (result : Result) :
    s.reportCommit c result =
      { s with
        arrivals :=
          if c.forgotten then s.arrivals
          else
            { s.arrivals with
              completions :=
                s.arrivals.completions ++ [⟨c.port, Reply.completion .storeCommit c.tag result (.commit c.report)⟩] } } := by
  unfold State.reportCommit
  split <;> rfl

/-! ## STORE and the medium agree (R143, R145 to R150) -/

/-- The current slot is the newest VALID one, and its generation is the newest; without a current slot none is VALID. -/
structure Store.Agrees (st : Store) (m : Medium) : Prop where
  generation : st.currentGeneration.toNat = m.newest
  current : ∀ c, st.current = some c → m.validGeneration c = m.newest ∧ 0 < m.newest

/-- The form of STORE in terms of `Store.Agrees` (R143). -/
theorem State.storeConsistent_iff (s : State) :
    s.StoreConsistent ↔
      (s.store.device = .running → s.store.Agrees s.medium)
        ∧ (s.store.device = .starting → s.store.state = .loading ∧ s.store.commit = none)
        ∧ (s.store.busy = false → s.store.commit = none) ∧ ∀ c, s.store.commit = some c → s.CommitConsistent c := by
  unfold State.StoreConsistent
  refine and_congr_left' (imp_congr_right fun _ => ?_)
  split
  · next none =>
    refine ⟨fun zero => ⟨?_, by simp [none]⟩, fun h => ?_⟩
    · simp [Store.currentGeneration, none, zero]
    · simpa [Store.currentGeneration, none] using h.generation.symm
  · next c hc =>
    refine ⟨fun ⟨newest, pos, generation⟩ => ⟨generation, fun d hd => ?_⟩, fun h => ?_⟩
    · cases hc.symm.trans hd
      exact ⟨newest, pos⟩
    · exact ⟨(h.current c hc).1, (h.current c hc).2, h.generation⟩

theorem Store.loadedFrom_slotGeneration (st : Store) (m : Medium) (c : Slot) :
    (st.loadedFrom m).slotGeneration[c] = slotGenerationOf m.slots[c] m.writes[c] := by
  match c with
  | 0 => rfl
  | 1 => rfl

/-- The load leaves STORE as the medium has it (R145). -/
theorem Store.loadedFrom_agrees (st : Store) (m : Medium) : (st.loadedFrom m).Agrees m where
  generation := by
    have current : (st.loadedFrom m).current = m.choose.current := rfl
    cases hc : m.choose.current with
    | none => simp [Store.currentGeneration, current, hc, m.choose_current.2 hc]
    | some c =>
      rw [Store.currentGeneration_of_current (current.trans hc), Store.loadedFrom_slotGeneration]
      exact (m.choose_current.1 c hc).1
  current c hc := m.choose_current.1 c hc

section Agrees

variable {st st' : Store} {m m' : Medium} {t : Slot}

/-- A slot that is not current is no loss (R150). -/
theorem Store.Agrees.newest_unloaded (h : st.Agrees m) (other : st.current ≠ some t) (u : m.Unloads m' t) :
    m'.newest = m.newest := by
  apply le_antisymm
  · refine Medium.newest_le_iff.2 fun n => ?_
    by_cases e : n = t
    · rw [e, Medium.validGeneration_of_unchecked u.unchecked]
      exact Nat.zero_le _
    · rw [Medium.validGeneration_congr (u.slots n e) (u.writes n e)]
      exact m.validGeneration_le_newest n
  · cases hc : st.current with
    | none =>
      rw [← h.generation, Store.currentGeneration, hc]
      exact Nat.zero_le _
    | some c =>
      have e : c ≠ t := fun e => other (e ▸ hc)
      rw [← (h.current c hc).1, ← Medium.validGeneration_congr (u.slots c e) (u.writes c e)]
      exact m'.validGeneration_le_newest c

/-- The agreement outlasts the erase and the writing of the other slot (R149). -/
theorem Store.Agrees.unloaded (h : st.Agrees m) (other : st.current ≠ some t) (u : m.Unloads m' t)
    (current : st'.current = st.current) (generation : st'.currentGeneration = st.currentGeneration) : st'.Agrees m' where
  generation := by rw [generation, h.generation, h.newest_unloaded other u]
  current c hc := by
    have hc : st.current = some c := current ▸ hc
    have e : c ≠ t := fun e => other (e ▸ hc)
    rw [Medium.validGeneration_congr (u.slots c e) (u.writes c e), h.newest_unloaded other u]
    exact h.current c hc

/-- A slot written whole is VALID under the generation written (R141, R150). -/
theorem Medium.validGeneration_written {i : Image} {g : BitVec 32}
    (slot : m.slots[t] = ⟨some g, some i.bytes, some (slotCheck g i.bytes)⟩) (written : m.writes[t] ≠ 0#32)
    (nonzero : g ≠ 0#32) (range : i.inRange = true) : m.validGeneration t = g.toNat := by
  have image : m.image t = some i :=
    slotImage_eq_some_iff.2 ⟨g, _, slot, written, nonzero, (everyImageIsReadBackFromItsBytes i).2, range⟩
  rw [Medium.validGeneration_of_image image, slot]
  rfl

/-- A slot VALID under the generation after the current slot's is the newest (R150). -/
theorem Store.Agrees.newest_written (h : st.Agrees m) (valid : m'.validGeneration t = st.currentGeneration.toNat + 1)
    (others : ∀ n : Slot, n ≠ t → m'.validGeneration n = m.validGeneration n) : m'.newest = m.newest + 1 := by
  rw [h.generation] at valid
  apply le_antisymm
  · refine Medium.newest_le_iff.2 fun n => ?_
    by_cases e : n = t
    · rw [e, valid]
    · rw [others n e]
      exact (m.validGeneration_le_newest n).trans (Nat.le_succ _)
  · exact valid ▸ m'.validGeneration_le_newest t

/-- With the current slot moved to it, STORE agrees with the medium again (R150). -/
theorem Store.Agrees.written (h : st.Agrees m) (valid : m'.validGeneration t = st.currentGeneration.toNat + 1)
    (others : ∀ n : Slot, n ≠ t → m'.validGeneration n = m.validGeneration n) (current : st'.current = some t)
    (generation : (st'.slotGeneration[t]).toNat = m'.validGeneration t) : st'.Agrees m' := by
  have newest : m'.validGeneration t = m'.newest := by rw [h.newest_written valid others, valid, h.generation]
  refine ⟨?_, fun c hc => ?_⟩
  · simpa only [Store.currentGeneration, current, newest] using generation
  · cases current.symm.trans hc
    exact ⟨newest, by omega⟩

end Agrees

/-! ## What a step keeps of STORE and the medium -/

/-- From `s` to `t` STORE stays in agreement with the medium, the newest VALID slot is not lost, and the write counts rise
within their limit (R142). -/
structure State.StoreKept (s t : State) : Prop where
  consistent : s.StoreConsistent → t.StoreConsistent
  newest : s.StoreConsistent → s.medium.newest ≤ t.medium.newest
  writes : ∀ n : Slot, (s.medium.writes[n]).toNat ≤ 100000 →
    (s.medium.writes[n]).toNat ≤ (t.medium.writes[n]).toNat ∧ (t.medium.writes[n]).toNat ≤ 100000

namespace State.StoreKept

variable {s t u : State}

/-- A change that leaves the medium. -/
theorem of_medium (hm : t.medium = s.medium) (hc : s.StoreConsistent → t.StoreConsistent) : s.StoreKept t where
  consistent := hc
  newest _ := hm ▸ le_rfl
  writes n h := by rw [hm]; exact ⟨le_rfl, h⟩

theorem of_sameStore (h : s.SameStore t) : s.StoreKept t :=
  of_medium h.2 fun hs => by
    simpa only [StoreConsistent, CommitConsistent, h.1, h.2] using hs

theorem trans (h : s.StoreKept t) (g : t.StoreKept u) : s.StoreKept u where
  consistent hs := g.consistent (h.consistent hs)
  newest hs := (h.newest hs).trans (g.newest (h.consistent hs))
  writes n hn :=
    have ⟨up, le⟩ := h.writes n hn
    have ⟨up', le'⟩ := g.writes n le
    ⟨up.trans up', le'⟩

/-! ### Resets and the load -/

/-- A running hub without a commit agrees with the medium as its current slot does (R143). -/
theorem consistent_of_idle (running : t.store.device = .running) (agrees : t.store.Agrees t.medium)
    (noCommit : t.store.commit = none) : t.StoreConsistent :=
  (storeConsistent_iff t).2
    ⟨fun _ => agrees, (nomatch running.symm.trans ·), fun _ => noCommit, fun _ hc => nomatch noCommit.symm.trans hc⟩

/-- Part reset and loss of supply leave the medium, and STORE as before a load (R143, R153). -/
theorem resetBlocks (s : State) (power : Power) : s.StoreKept (s.resetBlocks power) :=
  of_medium rfl fun _ =>
    (storeConsistent_iff _).2 ⟨(nomatch ·), fun _ => ⟨rfl, rfl⟩, fun _ => rfl, fun _ h => nomatch h⟩

theorem startUpLoad (s : State) : s.StoreKept (startUpLoad s) := by
  unfold Machine.startUpLoad
  split
  · next starting =>
    have placed : s.StoreKept s.placed := of_medium rfl fun hs => by
      obtain ⟨-, loading, -, -⟩ := (storeConsistent_iff s).1 hs
      exact consistent_of_idle rfl (s.store.loadedFrom_agrees s.medium) (loading starting).2
    exact placed.trans (of_sameStore (.trans (raiseLoadConditions_sameStore _) (startStrobing_sameStore _ _)))
  · exact of_sameStore ⟨rfl, rfl⟩

/-! ### Commits -/

/-- A commit is in flight only in a running hub, where STORE agrees with the medium (R143, R148). -/
theorem agrees_of_commit {c : Commit} (hs : s.StoreConsistent) (hc : s.store.commit = some c) :
    s.store.device = .running ∧ s.store.Agrees s.medium ∧ s.CommitConsistent c := by
  obtain ⟨agrees, loading, -, commit⟩ := (storeConsistent_iff s).1 hs
  cases device : s.store.device with
  | starting => exact absurd hc (by simp [(loading device).2])
  | running => exact ⟨rfl, agrees device, commit c hc⟩

/-- Within a commit its target is rewritten without a check, and the next phase begins (R149). -/
theorem phase {c : Commit} {held : SlotContents} {state : StoreState} {time : Micros} {readBack : Option SlotContents}
    (hc : s.store.commit = some c) (unchecked : s.medium.slots[c.report.target].check = none → held.check = none)
    (hstate : state = .writing ∨ state = .verifying ∧ readBack = some held) :
    s.StoreKept
      { s with
        medium := { s.medium with slots := s.medium.slots.set c.report.target held },
        store := { s.store with state := state, phaseStart := time, readBack := readBack } } := by
  have unloads (hs : s.StoreConsistent) :
      s.medium.Unloads { s.medium with slots := s.medium.slots.set c.report.target held } c.report.target := by
    obtain ⟨-, -, -, -, check, -⟩ := agrees_of_commit hs hc
    refine ⟨?_, fun n e => getElem_set_fin_other _ _ e, fun _ _ => rfl⟩
    simpa using unchecked check
  refine ⟨fun hs => ?_, fun hs => ?_, fun n hn => ⟨le_rfl, hn⟩⟩
  · obtain ⟨running, agrees, -, other, check, written, range, generation, -⟩ := agrees_of_commit hs hc
    have busy : Store.busy { s.store with state := state, phaseStart := time, readBack := readBack } = true := by
      obtain rfl | ⟨rfl, -⟩ := hstate <;> rfl
    refine (storeConsistent_iff _).2 ⟨fun _ => agrees.unloaded other (unloads hs) rfl rfl, fun h => ?_, fun h => ?_,
      fun d hd => ?_⟩
    · rw [running] at h; cases h
    · rw [busy] at h; cases h
    · cases hc.symm.trans hd
      refine ⟨busy, other, (unloads hs).unchecked, written, range, generation, fun verifying => ?_⟩
      obtain rfl | ⟨-, rfl⟩ := hstate
      · cases verifying
      · simp
  · obtain ⟨-, agrees, -, other, -⟩ := agrees_of_commit hs hc
    exact (agrees.newest_unloaded other (unloads hs)).ge

theorem erasingEnd (s : State) : s.StoreKept (erasingEnd s) := by
  fun_cases Machine.erasingEnd
  · exact of_sameStore ⟨rfl, rfl⟩
  · next c hc _ => exact phase hc (fun _ => rfl) (.inl rfl)
  · exact of_sameStore ⟨rfl, rfl⟩

theorem writingEnd (s : State) (outcome : MediumOutcome) : s.StoreKept (writingEnd outcome s) := by
  fun_cases Machine.writingEnd
  · exact of_sameStore ⟨rfl, rfl⟩
  · next c hc _ _ => exact phase hc (fun check => (MediumOutcome.apply_check ..).trans check) (.inr ⟨rfl, rfl⟩)
  · exact of_sameStore ⟨rfl, rfl⟩

theorem commitFailed {c : Commit} (hc : s.store.commit = some c) : s.StoreKept (s.commitFailed c) := by
  refine .trans ?_ (of_sameStore (reportCommit_sameStore ..))
  refine .trans ?_ (of_sameStore (raise_sameStore ..))
  refine of_medium rfl fun hs => ?_
  obtain ⟨running, agrees, -⟩ := agrees_of_commit hs hc
  exact consistent_of_idle running ⟨agrees.generation, agrees.current⟩ rfl

/-- A snapshot read back as it was written becomes the newest VALID slot (R150). -/
theorem commitDone {c : Commit} (hc : s.store.commit = some c) (verifying : s.store.state = .verifying)
    (good : c.matches s.store.readBack = true) : s.StoreKept (s.commitDone c) := by
  refine .trans ?_ (of_sameStore (reportCommit_sameStore ..))
  have others (held : SlotContents) (n : Slot) (e : n ≠ c.report.target) :
      Medium.validGeneration { s.medium with slots := s.medium.slots.set c.report.target held } n =
        s.medium.validGeneration n := Medium.validGeneration_congr (getElem_set_fin_other _ _ e) rfl
  have valid (hs : s.StoreConsistent) :
      Medium.validGeneration
        { s.medium with
          slots :=
            s.medium.slots.set c.report.target
              { s.medium.slots[c.report.target] with
                check := some (slotCheck c.report.generation c.snapshot.bytes) } }
        c.report.target = s.store.currentGeneration.toNat + 1 := by
    obtain ⟨-, -, -, -, -, written, range, generation, readBack⟩ := agrees_of_commit hs hc
    have nonzero : c.report.generation ≠ 0#32 := fun zero => by rw [zero] at generation; cases generation
    rw [readBack verifying, c.matches_iff] at good
    rw [← generation]
    refine Medium.validGeneration_written ?_ written nonzero range
    exact (getElem_set_fin_same ..).trans (by simp only [good])
  refine ⟨fun hs => ?_, fun hs => ?_, fun n hn => ⟨le_rfl, hn⟩⟩
  · obtain ⟨running, agrees, -, -, -, -, -, generation, -⟩ := agrees_of_commit hs hc
    have stored : (s.store.slotGeneration.set c.report.target c.report.generation)[c.report.target] =
        c.report.generation := getElem_set_fin_same ..
    exact consistent_of_idle running
      (agrees.written (valid hs) (others _) rfl
        (by rw [valid hs, stored, generation])) rfl
  · obtain ⟨-, agrees, -⟩ := agrees_of_commit hs hc
    have newest := agrees.newest_written (valid hs) (others _)
    exact (Nat.le_succ _).trans_eq newest.symm

theorem verifyingEnd (s : State) : s.StoreKept (verifyingEnd s) := by
  fun_cases Machine.verifyingEnd
  · exact of_sameStore ⟨rfl, rfl⟩
  · next c hc due good =>
    obtain ⟨verifying, -, -⟩ := (s.phaseDue_iff _ _).1 due
    exact commitDone hc verifying good
  · next c hc _ _ => exact commitFailed hc
  · exact of_sameStore ⟨rfl, rfl⟩

/-- An accepted commit takes the check of the slot that is not current (R147, R148). -/
theorem beginCommit {p : Port} {tag : Byte} {target : Slot} (ht : targetSlot s.store.current s.medium.writes = target)
    (running : s.store.device = .running) (active : s.cfg.active.inRange = true)
    (room : (s.medium.writes[target]).toNat < 100000)
    (fresh : s.store.current = none ∨ s.store.currentGeneration ≠ BitVec.allOnes 32) :
    s.StoreKept (s.beginCommit p tag) := by
  have other : s.store.current ≠ some target := ht ▸ targetSlot_not_current _ _
  have generation : (s.store.currentGeneration + 1).toNat = s.store.currentGeneration.toNat + 1 := by
    obtain none | below := fresh
    · simp [Store.currentGeneration, none]
    · have top : s.store.currentGeneration.toNat ≠ (BitVec.allOnes 32).toNat := BitVec.toNat_ne.1 below
      rw [BitVec.toNat_allOnes] at top
      exact BitVec.toNat_add_of_lt (show s.store.currentGeneration.toNat + 1 < 2 ^ 32 by omega)
  rw [State.beginCommit_eq ht rfl]
  have count : ((s.medium.writes.set target (s.medium.writes[target] + 1))[target]).toNat =
      (s.medium.writes[target]).toNat + 1 := by
    rw [getElem_set_fin_same]
    exact BitVec.toNat_add_of_lt (show (s.medium.writes[target]).toNat + 1 < 2 ^ 32 by omega)
  have unloads : s.medium.Unloads
      { s.medium with
        writes := s.medium.writes.set target (s.medium.writes[target] + 1),
        slots := s.medium.slots.set target { s.medium.slots[target] with check := none } } target :=
    ⟨congrArg _ (getElem_set_fin_same ..), fun n e => getElem_set_fin_other _ _ e,
      fun n e => getElem_set_fin_other _ _ e⟩
  have agrees (hs : s.StoreConsistent) : s.store.Agrees s.medium := ((storeConsistent_iff s).1 hs).1 running
  have kept := Store.currentGeneration_set other 0#32
  refine ⟨fun hs => (storeConsistent_iff _).2 ⟨fun _ => (agrees hs).unloaded other unloads rfl kept,
    (nomatch running.symm.trans ·), (nomatch ·), fun c hc => ?_⟩,
    fun hs => ((agrees hs).newest_unloaded other unloads).ge, fun n hn => ?_⟩
  · cases hc
    refine ⟨rfl, other, unloads.unchecked, fun zero => ?_, active, ?_, (nomatch ·)⟩
    · have : ((s.medium.writes.set target (s.medium.writes[target] + 1))[target]).toNat = 0 := congrArg BitVec.toNat zero
      omega
    · exact generation.trans (congrArg (BitVec.toNat · + 1) kept.symm)
  · by_cases e : n = target
    · subst e
      rw [count]
      omega
    · rw [unloads.writes n e]
      exact ⟨le_rfl, hn⟩

theorem storeCommit (p : Port) (tag : Byte) (running : s.store.device = .running) (active : s.cfg.active.inRange = true) :
    s.StoreKept (storeCommit p tag s).state := by
  fun_cases Machine.storeCommit
  · exact of_sameStore ⟨rfl, rfl⟩
  · exact of_sameStore ⟨rfl, rfl⟩
  · exact of_sameStore ⟨rfl, rfl⟩
  · exact of_sameStore ⟨rfl, rfl⟩
  · next target _ _ room fresh =>
    exact beginCommit rfl running active (not_le.1 room) (by simpa only [not_and_or, not_not] using fresh)

/-- A commit that is forgotten goes on (R151). -/
theorem portReset (s : State) (p : Port) : s.StoreKept (portReset p s).state := by
  have forgotten : s.StoreKept { s with store := s.store.forget p } := of_medium rfl fun hs => by
    unfold Store.forget
    split
    · obtain ⟨agrees, loading, idle, commit⟩ := (storeConsistent_iff s).1 hs
      refine (storeConsistent_iff _).2 ⟨fun running => ⟨(agrees running).generation, (agrees running).current⟩,
        fun starting => ⟨(loading starting).1, by simp [(loading starting).2]⟩, fun free => ?_, fun d hd => ?_⟩
      · simp [idle free]
      · obtain ⟨c, hc, rfl⟩ := Option.map_eq_some_iff.1 hd
        exact commit c hc
    · exact hs
  obtain ⟨-, -, medium, -⟩ := portReset_frame p s
  exact forgotten.trans (of_sameStore ⟨portReset_store p s, medium⟩)

/-! ### Commands -/

theorem of_whileRunning {f : State → State} (hf : s.StoreKept (f s)) (h : whileRunning f s = .next t) : s.StoreKept t := by
  unfold whileRunning at h
  split at h
  · cases h; exact hf
  · cases h; exact of_sameStore ⟨rfl, rfl⟩

/-- A request keeps what its own part keeps, and in STARTING it is carried out only if its kind is (R171 to R174). -/
theorem of_requestEnd {r : Req} {k : RequestKind} {carry : State → Answer}
    (hc : (s.store.device = .running ∨ k.inStarting = true) → (s.served r k).StoreKept (carry (s.served r k)).state)
    (h : requestEnd r k carry s = .next t) : s.StoreKept t := by
  cases h
  cases ht : s.ports[r.port].txn with
  | none =>
    rw [s.endTransaction_none r.port _ _ ht]
    exact of_sameStore ⟨rfl, rfl⟩
  | some tx =>
    rw [s.endTransaction_some r.port _ _ tx ht]
    refine .trans (of_sameStore (by simp) : s.StoreKept (s.served r k)) ?_
    change (s.served r k).StoreKept (takeRequest r k carry tx.early (s.served r k))
    unfold takeRequest
    split
    · exact of_sameStore (by simp)
    · split
      · exact of_sameStore (by simp)
      · next carried =>
        refine .trans (hc ?_) (of_sameStore (by simp))
        rw [State.served_store, not_and_or, Bool.not_eq_false] at carried
        refine carried.imp_left fun started => ?_
        cases device : s.store.device with
        | starting => exact absurd device started
        | running => rfl

theorem of_requestEnd_same {r : Req} {k : RequestKind} {carry : State → Answer}
    (hc : ∀ u, State.SameStore u (carry u).state) (h : requestEnd r k carry s = .next t) : s.StoreKept t :=
  of_requestEnd (fun _ => of_sameStore (hc _)) h

theorem of_carryOut {i : Instr} (active : s.cfg.active.inRange = true) (h : carryOut i s = .next t) : s.StoreKept t := by
  cases i with
  | identify | condRead | healthRead | timeRead | storeStatus => exact of_requestEnd_same (fun _ => ⟨rfl, rfl⟩) h
  | storeCommit r =>
    refine of_requestEnd (fun carried => storeCommit _ _ ?_ (by rwa [State.served_cfg])) h
    rw [State.served_store]
    exact carried.resolve_right (by decide)
  | portReset => exact of_requestEnd (fun _ => portReset ..) h
  | setAttention => exact of_requestEnd_same (fun _ => setAttention_sameStore ..) h
  | histRead => exact of_requestEnd_same (fun _ => histRead_sameStore ..) h
  | histPeek => exact of_requestEnd_same (fun _ => histPeek_sameStore ..) h
  | histSeek => exact of_requestEnd_same (fun _ => histSeek_sameStore ..) h
  | histWatermark => exact of_requestEnd_same (fun _ => histWatermark_sameStore ..) h
  | deltaOpen => exact of_requestEnd_same (fun _ => deltaOpen_sameStore ..) h
  | deltaTake => exact of_requestEnd_same (fun _ => deltaTake_sameStore ..) h
  | deltaCollect => exact of_requestEnd_same (fun _ => deltaCollect_sameStore ..) h
  | deltaClose => exact of_requestEnd_same (fun _ => deltaClose_sameStore ..) h
  | deltaStatus => exact of_requestEnd_same (fun _ => deltaStatus_sameStore ..) h
  | calRead => exact of_requestEnd_same (fun _ => calRead_sameStore ..) h
  | headIdent => exact of_requestEnd_same (fun _ => headIdent_sameStore ..) h
  | headTest => exact of_requestEnd_same (fun _ => headTest_sameStore ..) h
  | leaseAcquire => exact of_requestEnd_same (fun _ => leaseAcquire_sameStore ..) h
  | leaseRelease => exact of_requestEnd_same (fun _ => leaseRelease_sameStore ..) h
  | stageCal => exact of_requestEnd_same (fun _ => stageCal_sameStore ..) h
  | stageSource => exact of_requestEnd_same (fun _ => stageSource_sameStore ..) h
  | stageThresholds => exact of_requestEnd_same (fun _ => stageThresholds_sameStore ..) h
  | stageTiming => exact of_requestEnd_same (fun _ => stageTiming_sameStore ..) h
  | stageRead => exact of_requestEnd_same (fun _ => stageRead_sameStore ..) h
  | stageDiscard => exact of_requestEnd_same (fun _ => stageDiscard_sameStore ..) h
  | activate => exact of_requestEnd_same (fun _ => activate_sameStore ..) h
  | _ => cases h; exact of_sameStore ⟨rfl, rfl⟩

theorem of_malformedRequest {p : Port} {bytes : List Byte} (active : s.cfg.active.inRange = true)
    (h : execMalformedRequest p bytes s = .next t) : s.StoreKept t := by
  have refused (found : Received) : s.StoreKept (s.endTransaction p bytes.length (takeMalformed p bytes found)) :=
    of_sameStore (s.endTransaction_sameStore p fun _ _ => takeMalformed_sameStore ..)
  unfold execMalformedRequest at h
  split at h
  · cases h; exact of_sameStore (s.endTransaction_sameStore p fun _ _ => ⟨rfl, rfl⟩)
  · exact of_carryOut active h
  · cases h; exact refused _
  · cases h; exact refused _
  · cases h; exact refused _

/-- Every command keeps STORE in agreement with the medium, and the newest VALID slot. -/
theorem of_exec {c : Instr} (active : s.cfg.active.inRange = true) (h : exec c s = .next t) : s.StoreKept t := by
  by_cases request : (requestOf c).isSome = true
  · exact of_carryOut active (exec_request request s ▸ h)
  have same {f : State → State} (hf : s.SameStore (f s)) (h : whileRunning f s = .next t) : s.StoreKept t :=
    of_whileRunning (of_sameStore hf) h
  cases c with
  | partReset cause =>
    replace h : execPartReset cause s = .next t := h
    unfold execPartReset at h
    split at h
    · cases h; exact resetBlocks s _
    · cases h; exact of_sameStore ⟨rfl, rfl⟩
  | resetRelease =>
    replace h : execResetRelease s = .next t := h
    unfold execResetRelease at h
    split at h
    · cases h; exact resetBlocks s _
    · cases h; exact of_sameStore ⟨rfl, rfl⟩
  | powerLoss => cases h; exact resetBlocks s _
  | startUpLoad => exact of_whileRunning (startUpLoad s) h
  | erasingEnd => exact of_whileRunning (erasingEnd s) h
  | writingEnd outcome => exact of_whileRunning (writingEnd s outcome) h
  | verifyingEnd => exact of_whileRunning (verifyingEnd s) h
  | chipSelectFall => cases h; exact of_sameStore (chipSelectFall_sameStore ..)
  | nop => cases h; exact of_sameStore (s.endTransaction_sameStore _ fun _ _ => ⟨rfl, rfl⟩)
  | malformedRequest => exact of_malformedRequest active h
  | completionArrival => exact same (completionArrival_sameStore ..) h
  | leaseExpiry => exact same (leaseExpiry_sameStore s) h
  | freeStrobe => exact same (freeStrobe_sameStore s) h
  | syncEdge => exact same (syncEdge_sameStore s) h
  | fallbackCheck => exact same (fallbackCheck_sameStore s) h
  | syncPulse => exact same (syncPulse_sameStore s) h
  | scheduledStrobe => exact same (scheduledStrobe_sameStore s) h
  | virtualOrigin => exact same (virtualOrigin_sameStore s) h
  | holdoverDeadline => exact same (holdoverDeadline_sameStore s) h
  | holdoverEnd => exact same (holdoverEnd_sameStore s) h
  | timingChange => exact same (timingArrival_sameStore s) h
  | strobeAtSel => exact same (strobeArrival_sameStore s) h
  | strobeAtLink => exact same (strobeAtLink_sameStore ..) h
  | sample => exact same (sampleArrival_sameStore ..) h
  | response => exact same (responseArrival_sameStore ..) h
  | crcError => exact same (brokenArrival_sameStore ..) h
  | commandTimeout => exact same (commandTimeout_sameStore ..) h
  | miss => exact same (missArrival_sameStore ..) h
  | append => exact same (appendArrival_sameStore s) h
  | publicationAtDelta => exact same (deltaArrival_sameStore s) h
  | walkStep => exact same (walkStep_sameStore ..) h
  | dropAtDelta => exact same (dropArrival_sameStore s) h
  | levelReEvaluation => exact same (levelArrival_sameStore s) h
  | _ => exact absurd rfl request

theorem of_step (active : s.cfg.active.inRange = true) (h : step s = .next t) : s.StoreKept t := by
  unfold step at h
  split at h
  · next rest _ => exact .trans (of_sameStore ⟨rfl, rfl⟩ : s.StoreKept { s with pending := rest }) (of_exec active h)
  · unfold idleStep at h
    split at h
    · exact of_exec active h
    · cases h
      exact of_sameStore s.tick_sameStore

end State.StoreKept

/-- Settles O60: every command keeps the agreement and the newest VALID slot, by `State.StoreKept.of_exec`. -/
theorem noStepLosesTheNewestValidSlot : Obligations.NoStepLosesTheNewestValidSlot := by
  intro s t images consistent h
  have kept := State.StoreKept.of_step images.1 h
  exact ⟨kept.consistent consistent, kept.newest consistent, kept.writes⟩

/-! ## Part reset, its release and the supply (R143, R144, R153, R191) -/

section Reset

variable (s : State)

theorem exec_partReset_taken {cause : ResetCause} (takes : ResetCause.takes cause s.power = true) :
    exec (.partReset cause) s = .next (s.afterReset .heldInReset) := if_pos takes

theorem exec_partReset_ignored {cause : ResetCause} (ignored : ResetCause.takes cause s.power = false) :
    exec (.partReset cause) s = .next s := if_neg (Bool.eq_false_iff.1 ignored)

/-- A low level on RESET is a part reset from 10 µs on, and only with supply (R191). -/
theorem ResetCause.takes_resetLow (m : Nat) (power : Power) :
    ResetCause.takes (.resetLow m) power = true ↔ 10 ≤ m ∧ power ≠ .unpowered := by
  rw [ResetCause.takes, Bool.and_eq_true, decide_eq_true_iff, decide_eq_true_iff]
  rfl

/-- Settles O5: each event leaves `State.afterReset` or nothing changed, by the test of its cause. -/
theorem partResetHoldsTheHubUntilItsRelease : Obligations.PartResetHoldsTheHubUntilItsRelease := by
  refine fun s => ⟨exec_partReset_taken s rfl, fun m low supply => ?_, fun m short => ?_, fun held => if_pos held,
    fun other => if_neg other, rfl⟩
  · exact exec_partReset_taken s ((ResetCause.takes_resetLow m s.power).2 ⟨low, supply⟩)
  · refine exec_partReset_ignored s (Bool.eq_false_iff.2 (mt (ResetCause.takes_resetLow m s.power).1 ?_))
    rintro ⟨low, supply⟩
    exact short.elim (not_lt.2 low) supply

end Reset

/-! ## Requests that reach no block (R172, R173) -/

/-- Every request is the end of its transaction with its own block's part (R171). -/
theorem exec_requestEnd {i : Instr} {r : Req} {k : RequestKind} {payload : List Byte}
    (h : requestOf i = some (r, k, payload)) : ∃ carry, ∀ s, exec i s = requestEnd r k carry s := by
  cases i <;> cases h <;> exact ⟨_, fun _ => rfl⟩

/-- An EARLY request is a FRAME_ERROR, whatever its block would answer (R172). -/
theorem requestEnd_early {r : Req} {k : RequestKind} {s : State} {t : Transaction} (carry : State → Answer)
    (ht : s.ports[r.port].txn = some t) (early : t.early = true) :
    requestEnd r k carry s = .next ((s.served r k).frameError r.port k.code r.tag .early (Req.clocked r k)) := by
  rw [requestEnd, s.endTransaction_some r.port _ _ t ht, takeRequest, if_pos early]
  rfl

/-- Settles O13: neither refusal rests on what the block of the request does. -/
theorem earlyAndStartingRequestsAreNotCarriedOut : Obligations.EarlyAndStartingRequestsAreNotCarriedOut := by
  intro i r k payload s request
  obtain ⟨carry, run⟩ := exec_requestEnd request
  rw [run s]
  refine ⟨fun t ht early => requestEnd_early carry ht early, fun notIdentify notHealth starting progress room => ?_⟩
  have refused : k.inStarting = false := by simp [RequestKind.inStarting, notIdentify, notHealth]
  rw [requestEnd_starting r k carry s progress starting refused, State.appendReply_room _ _ _ room]
  rfl

/-! ## STORE_COMMIT (R147, R148) -/

section StoreCommit

variable {s : State} {p : Port} {tag : Byte} {target : Slot}

theorem storeCommit_notHolder (other : s.cfg.holds p = false) : storeCommit p tag s = answer s .notHolder := if_pos other

variable (holds : s.cfg.holds p = true)
include holds

theorem storeCommit_busy (busy : s.store.busy = true) : storeCommit p tag s = answer s .busy := by
  simp only [storeCommit, holds, busy, Bool.true_eq_false, if_false, if_true]

variable (free : s.store.busy = false) (ht : targetSlot s.store.current s.medium.writes = target)
include free ht

/-- A target with no write left, or a current slot with the last generation, is WORN (R147). -/
theorem storeCommit_worn
    (worn : 100000 ≤ (s.medium.writes[target]).toNat
      ∨ ∃ c, s.store.current = some c ∧ s.store.slotGeneration[c] = 0xFFFFFFFF#32) :
    storeCommit p tag s = answer s .worn := by
  subst ht
  simp only [storeCommit, holds, free, Bool.true_eq_false, Bool.false_eq_true, if_false]
  obtain spent | ⟨c, hc, last⟩ := worn
  · exact if_pos spent
  · have last : s.store.current ≠ none ∧ s.store.currentGeneration = BitVec.allOnes 32 :=
      ⟨by simp [hc], (Store.currentGeneration_of_current hc).trans last⟩
    rw [if_pos last, ite_self]

theorem storeCommit_accepted {generation : BitVec 32} (room : (s.medium.writes[target]).toNat < 100000)
    (succ : (s.store.current = none ∧ generation = 1#32)
      ∨ ∃ c, s.store.current = some c ∧ s.store.slotGeneration[c] ≠ 0xFFFFFFFF#32
          ∧ generation = s.store.slotGeneration[c] + 1) :
    storeCommit p tag s = ⟨s.beginCommit p tag, .accepted, .commit ⟨target, generation, s.cfg.epoch⟩⟩
      ∧ s.store.currentGeneration + 1 = generation := by
  subst ht
  have generation : s.store.currentGeneration + 1 = generation
      ∧ ¬(s.store.current ≠ none ∧ s.store.currentGeneration = BitVec.allOnes 32) := by
    obtain ⟨none, rfl⟩ | ⟨c, hc, below, rfl⟩ := succ
    · exact ⟨by simp [Store.currentGeneration, none], fun last => last.1 none⟩
    · rw [Store.currentGeneration_of_current hc]
      exact ⟨rfl, fun last => below last.2⟩
  have room : ¬Config.writeLimit ≤ (s.medium.writes[targetSlot s.store.current s.medium.writes]).toNat := not_le.2 room
  refine ⟨?_, generation.1⟩
  simp only [storeCommit, holds, free, Bool.true_eq_false, Bool.false_eq_true, if_false]
  rw [if_neg room, if_neg generation.2, generation.1]

end StoreCommit

/-! ## The phases of a commit (R149, R150) -/

section Phases

variable {s : State} {c : Commit}

/-- A phase is not due without a commit, in another phase, or before its time. -/
theorem State.phaseDue_eq_false {state : StoreState} {n : Nat}
    (h : s.store.commit = none ∨ s.store.state ≠ state ∨ s.since s.store.phaseStart < n) :
    s.phaseDue state n = false := by
  refine Bool.eq_false_iff.2 (mt (s.phaseDue_iff state n).1 ?_)
  rintro ⟨phase, commit, passed⟩
  obtain none | other | early := h
  · exact commit none
  · exact other phase
  · omega

theorem erasingEnd_early (early : s.erasingDue = false) : erasingEnd s = s := by
  unfold erasingEnd
  split
  · rfl
  · rw [early]; rfl

theorem writingEnd_early (early : s.writingDue = false) (outcome : MediumOutcome) : writingEnd outcome s = s := by
  unfold writingEnd
  split
  · rfl
  · rw [early]; rfl

theorem verifyingEnd_early (early : s.verifyingDue = false) : verifyingEnd s = s := by
  unfold verifyingEnd
  split
  · rfl
  · rw [early]; rfl

variable (power : s.power = .running) (hc : s.store.commit = some c)
include power hc

theorem exec_erasingEnd (phase : s.store.state = .erasing) (passed : 30000 ≤ s.since s.store.phaseStart) :
    exec .erasingEnd s =
      .next { s with
        medium := { s.medium with slots := s.medium.slots.set c.report.target ⟨none, none, none⟩ },
        store := { s.store with state := .writing, phaseStart := s.tb.counter } } := by
  have due : s.erasingDue = true := (s.phaseDue_iff _ _).2 ⟨phase, by simp [hc], passed⟩
  have run : exec .erasingEnd s = .next (erasingEnd s) := whileRunning_running erasingEnd s power
  simp only [run, erasingEnd, hc, due, if_true]
  rfl

theorem exec_writingEnd (phase : s.store.state = .writing) (passed : 10000 ≤ s.since s.store.phaseStart)
    (outcome : MediumOutcome) :
    exec (.writingEnd outcome) s =
      .next { s with
        medium :=
          { s.medium with
            slots :=
              s.medium.slots.set c.report.target (MediumOutcome.apply outcome c s.medium.slots[c.report.target]) },
        store :=
          { s.store with
            state := .verifying, phaseStart := s.tb.counter,
            readBack := some (MediumOutcome.apply outcome c s.medium.slots[c.report.target]) } } := by
  have due : s.writingDue = true := (s.phaseDue_iff _ _).2 ⟨phase, by simp [hc], passed⟩
  have run : exec (.writingEnd outcome) s = .next (writingEnd outcome s) := whileRunning_running (writingEnd outcome) s power
  simp only [run, writingEnd, hc, due, if_true]
  rfl

theorem exec_verifyingEnd (phase : s.store.state = .verifying) (passed : 2000 ≤ s.since s.store.phaseStart) :
    exec .verifyingEnd s = .next (if c.matches s.store.readBack then s.commitDone c else s.commitFailed c) := by
  have due : s.verifyingDue = true := (s.phaseDue_iff _ _).2 ⟨phase, by simp [hc], passed⟩
  have run : exec .verifyingEnd s = .next (verifyingEnd s) := whileRunning_running verifyingEnd s power
  simp only [run, verifyingEnd, hc, due, if_true]

end Phases

/-- Settles O55: the checks of STORE_COMMIT by the cases of its function, and each phase by its test and its end. -/
theorem aCommitRunsThroughItsPhasesToDoneOrFailed : Obligations.ACommitRunsThroughItsPhasesToDoneOrFailed := by
  refine ⟨fun r s target ready slot => ?_, fun s => ⟨fun early => ?_, fun early outcome => ?_, fun early => ?_⟩,
    fun s c power hc => ⟨exec_erasingEnd power hc, fun phase passed outcome held outcomes => ?_,
      fun r phase passed hr => ?_⟩⟩
  · have cfg : (s.served r .storeCommit).cfg = s.cfg := State.served_cfg ..
    have store : (s.served r .storeCommit).store = s.store := State.served_store ..
    have medium : (s.served r .storeCommit).medium = s.medium := State.served_medium ..
    have ht : targetSlot (s.served r .storeCommit).store.current (s.served r .storeCommit).medium.writes = target := by
      rw [store, medium]
      exact targetSlot_eq slot
    refine ⟨fun other => requestEnd_reported ready (storeCommit_notHolder (by rwa [cfg])), fun holds =>
      ⟨fun busy => requestEnd_reported ready (storeCommit_busy (by rwa [cfg]) (by rwa [store])), fun free =>
        ⟨fun worn => requestEnd_reported ready
            (storeCommit_worn (by rwa [cfg]) (by rwa [store]) ht (by rwa [store, medium])),
          fun generation room succ => ?_⟩⟩⟩
    obtain ⟨accepted, hg⟩ := storeCommit_accepted (s := s.served r .storeCommit) (p := r.port) (tag := r.tag)
      (by rwa [cfg]) (by rwa [store]) ht (by rwa [medium]) (by rwa [store])
    refine requestEnd_answer ready ?_ rfl
    rw [accepted, State.beginCommit_eq ht hg]
    simp only [store, medium, cfg, State.served_tb]
  · exact whileRunning_same (erasingEnd_early (State.phaseDue_eq_false early))
  · exact whileRunning_same (writingEnd_early (State.phaseDue_eq_false early) outcome)
  · exact whileRunning_same (verifyingEnd_early (State.phaseDue_eq_false early))
  · rw [exec_writingEnd power hc phase passed outcome]
    obtain ⟨rfl, rfl⟩ | ⟨g, i, rfl, rfl⟩ := outcomes <;> rfl
  · have run := exec_verifyingEnd power hc phase passed
    rw [hr] at run
    refine ⟨fun generation image => ?_, fun spoiled => ?_⟩
    · rw [if_pos ((c.matches_iff r).2 ⟨generation, image⟩), State.commitDone, State.reportCommit_eq] at run
      exact ⟨_, run, rfl, rfl, rfl, rfl, rfl⟩
    · rw [if_neg (by rw [c.matches_iff, not_and_or]; exact spoiled), State.commitFailed, State.reportCommit_eq] at run
      exact ⟨_, run, rfl, rfl, rfl, rfl, rfl⟩

end Sys2Proof.Machine

/-! SUPPORT. Proofs about COND (spec/09): what COND_READ takes, what a raise writes, and the level conditions raised at a
publication. -/

namespace Sys2Proof.Machine

-- One theorem at a time: the check gives every concurrent one a large stack of its own.
set_option Elab.async false

/-! ## COND_READ (R163) -/

/-- The transaction of the request leaves COND alone, so that COND_READ takes the set as it stood before. -/
theorem condRead_served (r : Req) (k : RequestKind) (s : State) :
    condRead r.port (s.served r k) =
      ⟨{ s.served r k with cond := { s.cond with sets := s.cond.sets.set r.port [] } }, .ok,
        .conditions s.cond.sets[r.port]⟩ := by
  rw [condRead, State.clearConditions, State.served_cond]

/-- Settles O20: a ready port gets the answer of COND; a port in STARTING is refused as every request but two is. -/
theorem condReadTakesTheSetAndClearsIt : Obligations.CondReadTakesTheSetAndClearsIt := by
  refine ⟨fun r s ready _ => requestEnd_answer ready (condRead_served r _ s) rfl, fun r s starting progress room => ?_,
    fun _ => rfl⟩
  obtain ⟨_, refused⟩ := earlyAndStartingRequestsAreNotCarriedOut (.condRead r) r .condRead [] s rfl
  exact refused (by decide) (by decide) starting progress room

/-! ## Raises (R157, R158, R162) -/

/-- A raise of a port condition enters that port's set and takes nothing out of any. -/
theorem State.mem_raisePort (s : State) (c d : Cond) (p q : Port) :
    d ∈ (s.raisePort c p).cond.sets[q] ↔ (q = p ∧ d = c) ∨ d ∈ s.cond.sets[q] := by
  by_cases h : q = p
  · subst h
    simp only [State.mem_raisePort_same, true_and]
  · rw [State.raisePort_other s c p q (Ne.symm h)]
    simp only [h, false_and, false_or]

/-- Both raises count alike: a raise into four sets is one occurrence, as one into one set is (R162). -/
theorem State.raisePort_counts (s : State) (c : Cond) (p : Port) :
    (s.raisePort c p).cond.counts = (s.raise c).cond.counts := rfl

/-- Settles O21: membership by what a raise inserts, the count by the saturating increment. -/
theorem aRaiseEntersItsSetsAndCountsOnce : Obligations.ARaiseEntersItsSetsAndCountsOnce := by
  refine fun s c d p q => ⟨s.mem_raise c d q, s.mem_raisePort c d p q, ?_, s.raisePort_counts c p, rfl, rfl⟩
  rw [State.count_raise, apply_ite BitVec.toNat, toNat_satInc]
  rfl

/-! ## Raises of a list of conditions -/

/-- The conditions of a list are raised, one after the other. -/
def State.raiseAll (cs : List Cond) (s : State) : State := cs.foldl (fun t c => t.raise c) s

@[simp] theorem State.raiseAll_nil (s : State) : s.raiseAll [] = s := rfl

@[simp] theorem State.raiseAll_cons (s : State) (c : Cond) (cs : List Cond) :
    s.raiseAll (c :: cs) = (s.raise c).raiseAll cs := rfl

/-- Raises write COND alone. -/
theorem State.raiseAll_eq (cs : List Cond) (s : State) : s.raiseAll cs = { s with cond := (s.raiseAll cs).cond } := by
  induction cs generalizing s with
  | nil => rfl
  | cons c cs ih => exact ih (s.raise c)

theorem State.mem_raiseAll (cs : List Cond) (s : State) (d : Cond) (p : Port) :
    d ∈ (s.raiseAll cs).cond.sets[p] ↔ d ∈ cs ∨ d ∈ s.cond.sets[p] := by
  induction cs generalizing s with
  | nil => simp only [State.raiseAll_nil, List.not_mem_nil, false_or]
  | cons c cs ih => rw [State.raiseAll_cons, ih, State.mem_raise, List.mem_cons, or_left_comm, or_assoc]

/-- Each condition of a list that names none twice has one occurrence more, and every other condition none. -/
theorem State.count_raiseAll {cs : List Cond} (once : cs.Nodup) (s : State) (d : Cond) :
    (s.raiseAll cs).cond.counts[d.index] = if d ∈ cs then satInc s.cond.counts[d.index] else s.cond.counts[d.index] := by
  induction cs generalizing s with
  | nil => rfl
  | cons c cs ih =>
    obtain ⟨new, once⟩ := List.nodup_cons.1 once
    rw [State.raiseAll_cons, ih once, State.count_raise]
    by_cases h : d = c
    · subst h
      rw [if_neg new, if_pos rfl, if_pos List.mem_cons_self]
    · simp only [h, List.mem_cons, false_or, if_false]

/-! ## The level conditions (R160, R161) -/

/-- The level conditions, in the order in which they are raised (R160). -/
def levelConditions : List Cond :=
  [.publishHeld, .headDisagree, .syncLost, .syncUnlock, .storeBlank, .storeCorrupt, .factoryCorrupt .A, .factoryCorrupt .B]

/-- Those raised are the level conditions in force. -/
theorem State.levelsInForce_eq_filter (s : State) (r : LevelReport) :
    s.levelsInForce r = levelConditions.filter (s.inForce r) := by
  have table : s.levelsInForce r =
      (levelConditions.map fun c => (s.inForce r c, c)).filterMap fun e => if e.1 then some e.2 else none := rfl
  rw [table, List.filterMap_map, ← List.filterMap_eq_filter]
  rfl

/-- Only a level condition is ever in force (R160). -/
theorem State.mem_levelConditions_of_inForce {s : State} {r : LevelReport} {c : Cond} (h : s.inForce r c = true) :
    c ∈ levelConditions := by
  cases c with
  | publishHeld | headDisagree | syncLost | syncUnlock | storeBlank | storeCorrupt => decide
  | factoryCorrupt x => cases x <;> decide
  | _ => cases h

theorem State.mem_levelsInForce (s : State) (r : LevelReport) (c : Cond) :
    c ∈ s.levelsInForce r ↔ s.inForce r c = true := by
  rw [State.levelsInForce_eq_filter, List.mem_filter, and_iff_right_of_imp State.mem_levelConditions_of_inForce]

theorem State.levelsInForce_nodup (s : State) (r : LevelReport) : (s.levelsInForce r).Nodup := by
  have distinct : levelConditions.Nodup := by decide
  rw [State.levelsInForce_eq_filter]
  exact distinct.filter _

/-- The oldest publication at COND leaves, and the level conditions in force are raised (R161). -/
theorem exec_levelReEvaluation {s : State} {report : LevelReport} {rest : List LevelReport} (power : s.power = .running)
    (arrived : s.arrivals.atCond = report :: rest) :
    exec .levelReEvaluation s =
      .next (({ s with arrivals := { s.arrivals with atCond := rest } } : State).raiseAll (s.levelsInForce report)) := by
  refine (whileRunning_running levelArrival s power).trans (congrArg _ ?_)
  rw [levelArrival, arrived]
  rfl

/-- Settles O22: the raises are those of a list that names exactly the conditions in force, each once. -/
theorem eachPublicationRaisesTheLevelConditionsInForce : Obligations.EachPublicationRaisesTheLevelConditionsInForce := by
  intro report rest s power arrived
  refine ⟨_, (exec_levelReEvaluation power arrived).trans (congrArg _ (State.raiseAll_eq _ _)), fun p c => ?_, fun c => ?_⟩
  · rw [State.mem_raiseAll, State.mem_levelsInForce]
  · simp only [State.count_raiseAll (s.levelsInForce_nodup report), State.mem_levelsInForce]

end Sys2Proof.Machine

/-! SUPPORT. Proofs about the host ports (spec/10): chip select, NOP, the examination of a transaction's bytes, request
messages, replies that find a full queue, completions, and SET_ATTENTION. -/

namespace Sys2Proof.Machine

-- One theorem at a time: the check gives every concurrent one a large stack of its own.
set_option Elab.async false

/-! ## Completions (R176) -/

theorem exec_completionArrival {index : Nat} {c : Completion} {s : State} (power : s.power = .running)
    (arrived : s.arrivals.completions[index]? = some c) :
    exec (.completionArrival index) s =
      .next (({ s with
          arrivals := { s.arrivals with completions := s.arrivals.completions.eraseIdx index } } : State).appendReply
        c.port c.reply) := by
  refine (whileRunning_running (completionArrival index) s power).trans (congrArg _ ?_)
  rw [completionArrival, arrived]

/-- Settles O15: an arrival is an `appendReply`, which the length of the queue decides. -/
theorem aCompletionIsAppendedOrDropped : Obligations.ACompletionIsAppendedOrDropped := by
  intro index c s power arrived
  rw [exec_completionArrival power arrived]
  exact ⟨fun room => congrArg _ (State.appendReply_room _ _ _ room),
    fun full => congrArg _ (State.appendReply_full _ _ _ full.not_lt)⟩

/-! ## Chip select falls (R170) -/

section ChipSelect

variable {s : State} {p : Port} {sooner : Bool}

/-- A fall of a high pin on a running hub begins a transaction with the reply formed then. -/
theorem exec_chipSelectFall (power : s.power = .running) (high : s.ports[p].csLow = false) :
    exec (.chipSelectFall p sooner) s =
      .next (s.modifyPort p fun q =>
        { q with csLow := true, txn := some (s.formReply p sooner).1, queue := (s.formReply p sooner).2 }) := by
  refine congrArg Host.Outcome.next ?_
  rw [chipSelectFall, if_neg (Bool.eq_false_iff.1 high), if_pos power]

theorem exec_chipSelectFall_low (low : s.ports[p].csLow = true) : exec (.chipSelectFall p sooner) s = .next s :=
  congrArg Host.Outcome.next (if_pos low)

theorem exec_chipSelectFall_stopped (power : s.power ≠ .running) (high : s.ports[p].csLow = false) :
    exec (.chipSelectFall p sooner) s = .next (s.modifyPort p fun q => { q with csLow := true }) := by
  refine congrArg Host.Outcome.next ?_
  rw [chipSelectFall, if_neg (Bool.eq_false_iff.1 high), if_neg power]

theorem State.formReply_filler (empty : s.ports[p].queue = []) :
    s.formReply p sooner = (⟨false, Reply.filler.wire 1#8 (s.statusSummary p), s.earlyFall p sooner⟩, []) := by
  rw [State.formReply, empty]

theorem State.formReply_head {h : QueuedReply} {rest : List QueuedReply} (queue : s.ports[p].queue = h :: rest) :
    s.formReply p sooner =
      (⟨true, h.reply.wire (satInc h.sent) (s.statusSummary p), s.earlyFall p sooner⟩,
        { h with sent := satInc h.sent } :: rest) := by
  rw [State.formReply, queue]

/-- The filler carries no payload (R170, section 11.2). -/
theorem Reply.filler_wire (status : BitVec 16) :
    Reply.filler.wire 1#8 status = sealed ([0x00#8, 0x00#8, 0x10#8, 1#8] ++ field 2 status ++ [0#8]) :=
  congrArg sealed (List.append_nil _)

end ChipSelect

/-- Settles O7: the reply is that of `State.formReply`, and EARLY is what `State.earlyFall` says. -/
theorem chipSelectFallFormsTheHeadReplyOrAFiller : Obligations.ChipSelectFallFormsTheHeadReplyOrAFiller := by
  intro p sooner early s told
  have judged : s.earlyFall p sooner = early := Bool.eq_iff_iff.2 ((s.earlyFall_iff p sooner).trans told.symm)
  refine ⟨fun power high empty => ?_, fun h rest power high queue => ?_, exec_chipSelectFall_low,
    exec_chipSelectFall_stopped⟩
  · rw [exec_chipSelectFall power high, State.formReply_filler empty, judged, Reply.filler_wire, ← empty]
    rfl
  · rw [exec_chipSelectFall power high, State.formReply_head queue, judged]
    rfl

/-! ## The end of a transaction (R169, R171, R182) -/

section Ends

variable {s : State} {p : Port} {t : Transaction} {n : Nat}

theorem Transaction.sentWhole_iff : t.sentWhole n = true ↔ t.queued = true ∧ t.bytes.length ≤ n := by
  rw [Transaction.sentWhole, Bool.and_eq_true, decide_eq_true_iff]

variable (ht : s.ports[p].txn = some t)
include ht

/-- The rise of chip select by itself, with no request taken. -/
theorem exec_nop :
    exec (.nop p n) s =
      .next (s.modifyPort p fun q =>
        { q with
          csLow := false, txn := none, queue := if t.sentWhole n then q.queue.tail else q.queue, sent := t.dataOut n,
          lastEnd := some s.tb.counter }) := by
  refine congrArg Host.Outcome.next ?_
  rw [State.endTransaction, ht]
  rfl

theorem exec_nop_removed (whole : t.sentWhole n = true) :
    exec (.nop p n) s =
      .next (s.modifyPort p fun q =>
        { q with
          csLow := false, txn := none, queue := q.queue.tail, sent := t.dataOut n, lastEnd := some s.tb.counter }) := by
  simp only [exec_nop ht, whole, if_true]

theorem exec_nop_kept (stays : ¬t.sentWhole n = true) :
    exec (.nop p n) s =
      .next (s.modifyPort p fun q =>
        { q with csLow := false, txn := none, sent := t.dataOut n, lastEnd := some s.tb.counter }) := by
  rw [exec_nop ht]
  simp only [stays]
  rfl

end Ends

/-- Bytes that carry nothing end their transaction as a NOP of as many bytes (R182, log 25). -/
theorem exec_malformedRequest_nothing {p : Port} {bytes : List Byte} (s : State)
    (found : decodeRequest p bytes = .nothing) : exec (.malformedRequest p bytes) s = exec (.nop p bytes.length) s := by
  change execMalformedRequest p bytes s = _
  rw [execMalformedRequest, found]
  rfl

theorem decodeRequest_nothing (p : Port) {bytes : List Byte} (h : bytes = [] ∨ byteAt bytes 0 = 0#8) :
    decodeRequest p bytes = .nothing := by
  refine if_pos ?_
  obtain rfl | zero := h
  · rfl
  · simp [zero]

/-- Settles O8: the end of a transaction, by whether it sent a queued reply whole and how much of it went out. -/
theorem nopTakesNoRequestAndRemovesAReplySentWhole : Obligations.NopTakesNoRequestAndRemovesAReplySentWhole := by
  refine fun p n s => ⟨fun t ht queued whole => ?_, fun t ht filler whole => ?_, fun t ht cut => ?_, fun waits => ?_,
    fun bytes nothing => ?_⟩
  · rw [exec_nop_removed ht (Transaction.sentWhole_iff.2 ⟨queued, whole⟩), t.dataOut_whole n whole]
  · have stays : ¬t.sentWhole n = true := by simp [Transaction.sentWhole_iff, filler]
    rw [exec_nop_kept ht stays, t.dataOut_whole n whole]
  · have stays : ¬t.sentWhole n = true := fun sent => cut.not_ge (Transaction.sentWhole_iff.1 sent).2
    rw [exec_nop_kept ht stays, t.dataOut_cut n cut.le]
  · exact congrArg Host.Outcome.next (s.endTransaction_none p n _ waits)
  · refine exec_malformedRequest_nothing s (decodeRequest_nothing p (nothing.imp_right fun first => ?_))
    rw [byteAt, List.getD_eq_getElem?_getD, ← List.head?_eq_getElem?, first]
    rfl

/-! ## SET_ATTENTION (R180) -/

section SetAttention

variable {p : Port} {mask : Byte} {s : State}

theorem setAttention_refused (h : 15 < mask.toNat) : setAttention p mask s = answer s .outOfRange := by
  have other : AttnSet.ofByte mask = none := if_neg (by omega)
  rw [setAttention, other]

theorem setAttention_taken (h : mask.toNat ≤ 15) :
    setAttention p mask s =
      ⟨s.modifyPort p fun q =>
          { q with mask := ⟨mask.getLsbD 0, mask.getLsbD 1, mask.getLsbD 2, mask.getLsbD 3⟩ }, .ok,
        .attention ⟨mask.getLsbD 0, mask.getLsbD 1, mask.getLsbD 2, mask.getLsbD 3⟩ (s.sources p)⟩ := by
  have named : AttnSet.ofByte mask = some ⟨mask.getLsbD 0, mask.getLsbD 1, mask.getLsbD 2, mask.getLsbD 3⟩ :=
    if_pos (by omega)
  rw [setAttention, named]

end SetAttention

theorem not_isEmpty_eq_decide {α : Type} [DecidableEq α] (l : List α) : (!l.isEmpty) = decide (l ≠ []) := by
  cases l <;> simp

theorem State.sources_eq (s : State) (p : Port) :
    s.sources p =
      { replyQueue := s.ports[p].queue ≠ [], watermark := s.hist.readers[p].reached,
        takeQueue := s.takeQueueNonEmpty p, condition := s.cond.sets[p] ≠ [] } := by
  rw [State.sources, not_isEmpty_eq_decide, not_isEmpty_eq_decide]

theorem State.served_takeQueueNonEmpty (s : State) (r : Req) (k : RequestKind) (p : Port) :
    (s.served r k).takeQueueNonEmpty p = s.takeQueueNonEmpty p := by
  simp only [State.takeQueueNonEmpty, State.served_delta]

/-- A waiting reply pulls ATTN low where the mask names REPLY_QUEUE (R179). -/
theorem State.attnLow_of_replyQueue {s : State} {p : Port} (power : s.power = .running)
    (enabled : s.ports[p].mask.replyQueue = true) (waiting : s.ports[p].queue ≠ []) : s.attnLow p = true := by
  have truth : (s.sources p).replyQueue = true := by rw [State.sources_eq]; exact decide_eq_true waiting
  rw [State.attnLow, AttnSet.asserts, power, enabled, truth]
  rfl

/-- An empty mask keeps ATTN high (R180). -/
theorem State.attnLow_of_noSource {s : State} {p : Port} (none : s.ports[p].mask = ⟨false, false, false, false⟩) :
    s.attnLow p = false := by
  rw [State.attnLow, none]
  exact Bool.and_false _

/-- Settles O17: the mask is replaced and the reply queued, and ATTN follows from these two. -/
theorem setAttentionReplacesTheMask : Obligations.SetAttentionReplacesTheMask := by
  refine fun r mask s ready => ⟨fun other => requestEnd_reported ready (setAttention_refused other), fun named => ?_⟩
  have run := requestEnd_ready r .setAttention (setAttention r.port mask) s ready
    (by rw [setAttention_taken named, State.modifyPort_port, if_pos rfl])
  rw [setAttention_taken named, State.sources_eq, State.served_hist, State.served_takeQueueNonEmpty,
    State.served_cond] at run
  refine ⟨_, run, rfl, fun enabled power => State.attnLow_of_replyQueue ?_ ?_ ?_,
    fun empty => State.attnLow_of_noSource ?_⟩
  · rwa [State.replied_power, State.modifyPort_power, State.served_power]
  · simpa [State.replied_ports] using enabled
  · simp [State.replied_ports]
  · simp [State.replied_ports, empty]

/-! ## The kinds of requests (R187) -/

theorem RequestKind.ofCode_code (k : RequestKind) : RequestKind.ofCode k.code = some k := by cases k <;> rfl

theorem RequestKind.code_of_ofCode {c : Byte} {k : RequestKind} (h : RequestKind.ofCode c = some k) : k.code = c :=
  of_decide_eq_true (List.find?_some h :)

/-- No request shares the code of a NOP. -/
theorem RequestKind.code_ne_zero (k : RequestKind) : k.code ≠ 0#8 := by cases k <;> decide

/-- Every request fits the length range of R172. -/
theorem RequestKind.length_le (k : RequestKind) : k.length ≤ 120 := by cases k <;> decide

/-- What a payload spells for a kind is a request of that kind. -/
theorem requestOf_decodePayload (r : Req) (k : RequestKind) (payload : List Byte) :
    ∃ spelled, requestOf (decodePayload r k payload) = some (r, k, spelled) := by
  cases k <;> exact ⟨_, rfl⟩

/-! ## The examination of a transaction's bytes (R172) -/

section Examined

variable {p : Port} {bytes : List Byte} {len : Nat} {k : RequestKind}

/-- Bytes with a whole byte, and not 00h first, are no NOP (R182). -/
theorem not_nop (asks : bytes ≠ [] ∧ byteAt bytes 0 ≠ 0#8) : ¬(bytes.isEmpty || decide (byteAt bytes 0 = 0#8)) = true := by
  simpa using asks

theorem not_longPayload (range : len ≤ 120) : ¬len > Config.maxRequestPayload := not_lt.2 range

theorem not_shortHeader (whole : 3 + len + 2 ≤ bytes.length) : ¬bytes.length < 3 := by omega

variable (asks : bytes ≠ [] ∧ byteAt bytes 0 ≠ 0#8)
include asks

theorem decodeRequest_shortHeader (short : bytes.length < 3) : decodeRequest p bytes = .frameError .shortHeader := by
  rw [decodeRequest, if_neg (not_nop asks), if_pos short]

variable (hlen : (byteAt bytes 2).toNat = len)
include hlen

theorem decodeRequest_lengthRange (header : 3 ≤ bytes.length) (long : len > Config.maxRequestPayload) :
    decodeRequest p bytes = .frameError .lengthRange := by
  rw [decodeRequest, if_neg (not_nop asks), if_neg header.not_gt, hlen, if_pos long]

variable (range : len ≤ 120)
include range

theorem decodeRequest_shortPayload (header : 3 ≤ bytes.length) (short : bytes.length < 3 + len + 2) :
    decodeRequest p bytes = .frameError .shortPayload := by
  rw [decodeRequest, if_neg (not_nop asks), if_neg header.not_gt, hlen, if_neg (not_longPayload range), if_pos short]

variable (whole : 3 + len + 2 ≤ bytes.length)
include whole

theorem decodeRequest_check (broken : checkMatches (bytes.take (3 + len + 2)) = false) :
    decodeRequest p bytes = .frameError .check := by
  rw [decodeRequest, if_neg (not_nop asks), if_neg (not_shortHeader whole), hlen, if_neg (not_longPayload range),
    if_neg whole.not_gt, if_pos (Bool.eq_false_iff.1 broken)]

variable (sound : checkMatches (bytes.take (3 + len + 2)) = true)
include sound

theorem decodeRequest_unknownKind (unknown : RequestKind.ofCode (byteAt bytes 0) = none) :
    decodeRequest p bytes = .unknownKind := by
  rw [decodeRequest, if_neg (not_nop asks), if_neg (not_shortHeader whole), hlen, if_neg (not_longPayload range),
    if_neg whole.not_gt, if_neg (not_not.2 sound), unknown]

variable (known : RequestKind.ofCode (byteAt bytes 0) = some k)
include known

theorem decodeRequest_known :
    decodeRequest p bytes =
      if len ≠ k.length then .badLength
      else
        .request (decodePayload ⟨p, byteAt bytes 1, bytes.length - (3 + len + 2)⟩ k ((bytes.drop 3).take len)) := by
  rw [decodeRequest, if_neg (not_nop asks), if_neg (not_shortHeader whole), hlen, if_neg (not_longPayload range),
    if_neg whole.not_gt, if_neg (not_not.2 sound), known]

theorem decodeRequest_badLength (wrong : len ≠ k.length) : decodeRequest p bytes = .badLength :=
  (decodeRequest_known asks hlen range whole sound known).trans (if_pos wrong)

end Examined

/-- Bytes that are read as a request are one of the kind, the tag and the length they show. -/
theorem of_decodeRequest_request {p : Port} {bytes : List Byte} {i : Instr} (found : decodeRequest p bytes = .request i) :
    ∃ r k payload, requestOf i = some (r, k, payload) ∧ r.port = p ∧ r.tag = byteAt bytes 1 ∧ k.code = byteAt bytes 0
      ∧ Req.clocked r k = bytes.length := by
  revert found
  fun_cases decodeRequest p bytes with
  | case8 len _ _ _ whole _ k known right =>
    rintro ⟨⟩
    obtain ⟨payload, request⟩ := requestOf_decodePayload ⟨p, byteAt bytes 1, bytes.length - (3 + len + 2)⟩ k
      ((bytes.drop 3).take len)
    refine ⟨_, k, payload, request, rfl, rfl, RequestKind.code_of_ofCode known, ?_⟩
    change 3 + k.length + 2 + (bytes.length - (3 + len + 2)) = bytes.length
    omega
  | _ => exact fun other => nomatch other

/-! ## Bytes that are refused (R172, R175) -/

section Refused

variable {p : Port} {bytes : List Byte} {s : State} {t : Transaction}

theorem exec_malformedRequest_request {i : Instr} (found : decodeRequest p bytes = .request i) :
    exec (.malformedRequest p bytes) s = exec i s := by
  obtain ⟨r, k, payload, request, -⟩ := of_decodeRequest_request found
  have carried : exec i s = carryOut i s := exec_request (by rw [request]; rfl) s
  change execMalformedRequest p bytes s = _
  rw [execMalformedRequest, found, carried]

/-- Bytes that R172 refuses are answered at the end of their transaction. -/
theorem exec_malformedRequest_refused (ht : s.ports[p].txn = some t) (asks : decodeRequest p bytes ≠ .nothing)
    (bad : ∀ i, decodeRequest p bytes ≠ .request i) :
    exec (.malformedRequest p bytes) s =
      .next (takeMalformed p bytes (decodeRequest p bytes) t.early (s.endTransaction p bytes.length fun _ u => u)) := by
  change execMalformedRequest p bytes s = _
  rw [← s.endTransaction_some p bytes.length (takeMalformed p bytes (decodeRequest p bytes)) t ht, execMalformedRequest]
  cases found : decodeRequest p bytes with
  | nothing => exact absurd found asks
  | request i => exact absurd found (bad i)
  | frameError reason => rfl
  | unknownKind => rfl
  | badLength => rfl

theorem decodeRequest_ne_nothing (asks : bytes ≠ [] ∧ byteAt bytes 0 ≠ 0#8) : decodeRequest p bytes ≠ .nothing := by
  fun_cases decodeRequest p bytes with
  | case1 nop => exact absurd nop (not_nop asks)
  | _ => exact fun other => nomatch other

/-- In an EARLY transaction any bytes but those of a NOP are a FRAME_ERROR, a good request's among them (R172). -/
theorem exec_malformedRequest_early (ht : s.ports[p].txn = some t) (early : t.early = true)
    (asks : bytes ≠ [] ∧ byteAt bytes 0 ≠ 0#8) :
    exec (.malformedRequest p bytes) s =
      .next ((s.endTransaction p bytes.length fun _ u => u).frameError p (byteAt bytes 0) (byteAt bytes 1) .early
        bytes.length) := by
  by_cases good : ∃ i, decodeRequest p bytes = .request i
  · obtain ⟨i, found⟩ := good
    obtain ⟨r, k, payload, request, rfl, tag, kind, clocked⟩ := of_decodeRequest_request found
    obtain ⟨carry, run⟩ := exec_requestEnd request
    rw [exec_malformedRequest_request found, run s, requestEnd_early carry ht early, State.served, tag, kind, clocked]
  · rw [exec_malformedRequest_refused ht (decodeRequest_ne_nothing asks) (not_exists.1 good), early]
    rfl

end Refused

/-- Settles O9: the cases of R172 in their order, the EARLY transaction, and the reply of each case. -/
theorem malformedRequestsAreAnsweredByTheFirstCaseThatFits :
    Obligations.MalformedRequestsAreAnsweredByTheFirstCaseThatFits := by
  refine ⟨fun p bytes some_ kind => ?_, fun p bytes s t ht early some_ kind =>
    exec_malformedRequest_early ht early ⟨some_, kind⟩, fun p bytes s t ht late => ?_⟩
  · have asks := And.intro some_ kind
    exact ⟨decodeRequest_shortHeader asks, decodeRequest_lengthRange asks rfl,
      fun header range => decodeRequest_shortPayload asks rfl range header,
      fun range whole => ⟨decodeRequest_check asks rfl range whole, fun sound =>
        ⟨decodeRequest_unknownKind asks rfl range whole sound,
          fun k => decodeRequest_badLength asks rfl range whole sound⟩⟩⟩
  · have refused {found : Received} (h : decodeRequest p bytes = found) (asks : found ≠ .nothing)
        (bad : ∀ i, found ≠ .request i) :
        exec (.malformedRequest p bytes) s =
          .next (takeMalformed p bytes found false (s.endTransaction p bytes.length fun _ u => u)) := by
      subst h
      rw [← late]
      exact exec_malformedRequest_refused ht asks bad
    exact ⟨fun reason found => refused found nofun nofun, fun found => refused found nofun nofun,
      fun found => refused found nofun nofun⟩

/-! ## Request messages (section 11.2) -/

/-- The check behind a message is the one it is read back with (R186). -/
theorem checkMatches_sealed (bytes : List Byte) : checkMatches (sealed bytes) = true := by
  have body : (sealed bytes).length - 2 = bytes.length := by simp [sealed]
  have crc : beNat (field 2 (crc16 bytes)) = (crc16 bytes).toNat := beNat_beBytes (crc16 bytes).isLt
  rw [checkMatches, body, sealed, List.drop_left, List.take_left, crc, decide_eq_true rfl]

/-- A request's fields have the length of its kind (R187). -/
theorem length_payload {i : Instr} {r : Req} {k : RequestKind} {payload : List Byte}
    (request : requestOf i = some (r, k, payload)) : payload.length = k.length := by
  cases i <;> cases request <;> rfl

/-- A byte before other parts is read back, and they follow it. -/
theorem HoldsAt.cons {bytes rest : List Byte} {at_ : Nat} {b : Byte} (h : HoldsAt bytes at_ (b :: rest)) :
    byteAt bytes at_ = b ∧ HoldsAt bytes (at_ + 1) rest := by
  obtain ⟨first, rest⟩ := (holdsAt_append (first := [b])).1 h
  exact ⟨first.byteAt_eq, rest⟩

/-- The fields of a request are read back from bytes that begin with them, each from its offset (section 11.3). -/
theorem decodePayload_of_holdsAt {i : Instr} {r : Req} {k : RequestKind} {payload bytes : List Byte}
    (request : requestOf i = some (r, k, payload)) (holds : HoldsAt bytes 0 payload) : decodePayload r k bytes = i := by
  cases i with
  | identify | portReset | condRead | healthRead | timeRead | histPeek | leaseRelease | stageRead | stageDiscard | activate
  | storeCommit | storeStatus => cases request; rfl
  | setAttention | histRead | deltaTake | deltaCollect | deltaStatus | headIdent | headTest =>
    cases request
    rw [decodePayload, holds.byteAt_eq]
  | deltaClose | calRead =>
    cases request
    obtain ⟨first, second⟩ := holds.cons
    rw [decodePayload, first, second.byteAt_eq]
  | histSeek | leaseAcquire | stageSource =>
    cases request
    obtain ⟨first, value⟩ := holds.cons
    rw [decodePayload, first, value.payloadField_eq le_rfl]
  | histWatermark =>
    cases request
    rw [decodePayload, holds.payloadField_eq le_rfl]
  | deltaOpen =>
    cases request
    simp only [List.append_assoc, holdsAt_append, Laws.length_field] at holds
    obtain ⟨label, period, rest⟩ := holds
    obtain ⟨form, number⟩ := rest.cons
    rw [decodePayload, label.payloadField_eq le_rfl, period.payloadField_eq le_rfl, form, number.payloadField_eq le_rfl]
  | stageCal r head group values =>
    cases request
    obtain ⟨head, rest⟩ := holds.cons
    obtain ⟨group, matrix⟩ := rest.cons
    have values : matAt bytes 2 = values := HoldsAt.matAt_eq matrix
    rw [decodePayload, head, group, ← values]
    rfl
  | stageThresholds =>
    cases request
    obtain ⟨gyro, accel⟩ := holdsAt_append.1 holds
    rw [Laws.length_field] at accel
    rw [decodePayload, gyro.payloadField_eq le_rfl, accel.payloadField_eq le_rfl]
  | stageTiming =>
    cases request
    obtain ⟨rate, rest⟩ := holdsAt_append.1 holds
    rw [Laws.length_field] at rest
    obtain ⟨mode, scale⟩ := rest.cons
    rw [decodePayload, rate.payloadField_eq le_rfl, mode, scale.payloadField_eq le_rfl]
  | _ => cases request

/-- The header and the payload of a request, over which its check is formed (section 11.2). -/
def requestBody (k : RequestKind) (tag : Byte) (payload : List Byte) : List Byte :=
  k.code :: tag :: BitVec.ofNat 8 payload.length :: payload

section Message

variable (p : Port) (k : RequestKind) (tag : Byte) {payload : List Byte} (right : payload.length = k.length)
include right

theorem length_sealed_requestBody : (sealed (requestBody k tag payload)).length = 3 + k.length + 2 := by
  simp only [sealed, requestBody, List.length_append, List.length_cons, Laws.length_field, right]
  omega

/-- A message of a kind with a payload of its length is read as that request, whatever the host clocks after it (R172). -/
theorem decodeRequest_sealed (padding : List Byte) :
    decodeRequest p (sealed (requestBody k tag payload) ++ padding) =
      .request (decodePayload ⟨p, tag, padding.length⟩ k payload) := by
  have small := RequestKind.length_le k
  have body := length_sealed_requestBody k tag right
  have len : (BitVec.ofNat 8 payload.length).toNat = k.length := by
    rw [BitVec.toNat_ofNat, right, Nat.mod_eq_of_lt (by omega)]
  have clocked : (sealed (requestBody k tag payload) ++ padding).length = 3 + k.length + 2 + padding.length := by
    rw [List.length_append, body]
  have sound : checkMatches ((sealed (requestBody k tag payload) ++ padding).take (3 + k.length + 2)) = true := by
    rw [List.take_left' body, checkMatches_sealed]
  have read : ((sealed (requestBody k tag payload) ++ padding).drop 3).take k.length = payload := by
    change ((payload ++ _) ++ padding).take k.length = payload
    rw [List.append_assoc, List.take_left' right]
  have known := decodeRequest_known (p := p) (bytes := sealed (requestBody k tag payload) ++ padding) (k := k)
    ⟨List.cons_ne_nil _ _, RequestKind.code_ne_zero k⟩ len small (by omega) sound (RequestKind.ofCode_code k)
  rw [known, if_neg (not_not.2 rfl), clocked, Nat.add_sub_cancel_left, read]
  rfl

end Message

/-- Settles O10: the message is read as a request of its kind, and its payload as that command's fields. -/
theorem everyRequestMessageDecodesToItsCommand : Obligations.EveryRequestMessageDecodesToItsCommand := by
  intro i r k payload message request sent
  rw [requestMessage, request, Option.some_inj] at sent
  have read := decodeRequest_sealed r.port k r.tag (length_payload request) (List.replicate r.padding 0#8)
  rw [List.length_replicate, decodePayload_of_holdsAt request (holdsAt_self payload)] at read
  rw [← sent]
  exact read

/-! ## Replies that find a full queue (R174, R175) -/

/-- The hub with other replies waiting at a port. -/
def State.withQueue (s : State) (p : Port) (queue : List QueuedReply) : State :=
  s.modifyPort p fun q => { q with queue := queue }

section WithQueue

variable (s : State) (p : Port) (queue : List QueuedReply)

@[simp] theorem State.withQueue_hist : (s.withQueue p queue).hist = s.hist := rfl
@[simp] theorem State.withQueue_delta : (s.withQueue p queue).delta = s.delta := rfl
@[simp] theorem State.withQueue_cfg : (s.withQueue p queue).cfg = s.cfg := rfl
@[simp] theorem State.withQueue_links : (s.withQueue p queue).links = s.links := rfl
@[simp] theorem State.withQueue_store : (s.withQueue p queue).store = s.store := rfl

theorem State.withQueue_port (q : Port) :
    (s.withQueue p queue).ports[q] = if q = p then { s.ports[p] with queue := queue } else s.ports[q] :=
  s.modifyPort_port p q _

/-- A second write to a port stands over the first. -/
theorem State.modifyPort_modifyPort (f g : PortState → PortState) :
    (s.modifyPort p f).modifyPort p g = s.modifyPort p fun q => g (f q) := by
  simp [State.modifyPort]

theorem State.modifyPort_self {f : PortState → PortState} (h : f s.ports[p] = s.ports[p]) : s.modifyPort p f = s := by
  rw [State.modifyPort, h]
  simp

@[simp] theorem State.withQueue_withQueue (queue' : List QueuedReply) :
    (s.withQueue p queue).withQueue p queue' = s.withQueue p queue' := s.modifyPort_modifyPort p _ _

@[simp] theorem State.withQueue_self : s.withQueue p s.ports[p].queue = s := s.modifyPort_self p rfl

/-- The checks of a context number look at DELTA alone (R14). -/
theorem State.withQueue_ownContext (o : Port) (b : Byte) :
    (s.withQueue p queue).ownContext o b = s.ownContext o b := rfl

/-- The end of a lease moves CFG and a COMPLETION alone (R124, R127). -/
theorem State.withQueue_endLease : (s.withQueue p queue).endLease = s.endLease.withQueue p queue := by
  unfold State.endLease State.grantNext
  simp only [State.withQueue_cfg]
  split <;> rfl

/-- The end of a transaction leaves an empty queue empty, and writes the rest of its port alike. -/
theorem State.served_withQueue_nil (r : Req) (k : RequestKind) :
    (s.withQueue r.port []).served r k = (s.served r k).withQueue r.port [] := by
  have txn : (s.withQueue r.port []).ports[r.port].txn = s.ports[r.port].txn := by
    rw [State.withQueue_port, if_pos rfl]
  unfold State.served State.endTransaction
  rw [txn]
  cases s.ports[r.port].txn with
  | none => simp only [State.withQueue, State.modifyPort_modifyPort]
  | some t =>
    simp only [State.withQueue, State.modifyPort_modifyPort, List.tail_nil, ite_self]
    rfl

end WithQueue

/-- What a block makes of the hub for a request does not rest on the replies that wait at a port, and leaves them alone. -/
def QueueBlind (p : Port) (carry : State → Answer) : Prop :=
  ∀ s queue, (carry (s.withQueue p queue)).state = (carry s).state.withQueue p queue

namespace QueueBlind

variable {p o : Port}

theorem keeps {carry : State → Answer} (blind : QueueBlind p carry) (s : State) :
    (carry s).state.ports[p].queue = s.ports[p].queue := by
  have same := blind s s.ports[p].queue
  rw [State.withQueue_self] at same
  rw [same, State.withQueue_port, if_pos rfl]

theorem answer (result : Result) (payload : State → Payload) :
    QueueBlind p fun s => Machine.answer s result (payload s) := fun _ _ => rfl

theorem setAttention (mask : Byte) : QueueBlind p (Machine.setAttention p mask) := by
  intro s queue
  unfold Machine.setAttention
  split
  · rfl
  · simp only [State.withQueue, State.modifyPort_modifyPort]

/-! ### HIST -/

theorem histRead (max : Byte) : QueueBlind p (Machine.histRead o max) := by
  intro s queue
  unfold Machine.histRead
  split <;> rfl

theorem histPeek : QueueBlind p (Machine.histPeek o) := by
  intro s queue
  unfold Machine.histPeek
  rw [State.withQueue_hist]
  split <;> rfl

theorem histSeek (form : Byte) (number : PubNum) : QueueBlind p (Machine.histSeek o form number) := by
  intro s queue
  unfold Machine.histSeek
  rw [State.withQueue_hist]
  split <;> rfl

theorem histWatermark (value : BitVec 16) : QueueBlind p (Machine.histWatermark o value) := by
  intro s queue
  unfold Machine.histWatermark
  split <;> rfl

/-! ### DELTA -/

theorem deltaOpen (tag : Byte) (label period : BitVec 16) (form : Byte) (number : PubNum) :
    QueueBlind p (Machine.deltaOpen o tag label period form number) := by
  intro s queue
  unfold Machine.deltaOpen
  rw [State.withQueue_delta, State.withQueue_hist]
  repeat' split
  all_goals rfl

theorem deltaTake (ctx : Byte) : QueueBlind p (Machine.deltaTake o ctx) := by
  intro s queue
  unfold Machine.deltaTake
  rw [State.withQueue_ownContext]
  repeat' split
  all_goals rfl

theorem deltaCollect (ctx : Byte) : QueueBlind p (Machine.deltaCollect o ctx) := by
  intro s queue
  unfold Machine.deltaCollect
  rw [State.withQueue_ownContext]
  repeat' split
  all_goals rfl

theorem deltaClose (ctx discard : Byte) : QueueBlind p (Machine.deltaClose o ctx discard) := by
  intro s queue
  unfold Machine.deltaClose
  rw [State.withQueue_ownContext]
  repeat' split
  all_goals rfl

theorem deltaStatus (ctx : Byte) : QueueBlind p (Machine.deltaStatus o ctx) := by
  intro s queue
  unfold Machine.deltaStatus
  rw [State.withQueue_ownContext]
  split <;> rfl

/-! ### CAL and the links -/

theorem calRead (head form : Byte) : QueueBlind p (Machine.calRead o head form) := by
  intro s queue
  unfold Machine.calRead
  rw [State.withQueue_cfg]
  repeat' split
  all_goals rfl

theorem hostCommand (x : Head) (kind : CommandKind) (tag : Byte) : QueueBlind p (Machine.hostCommand x kind o tag) := by
  intro s queue
  unfold Machine.hostCommand
  rw [State.withQueue_links]
  repeat' split
  all_goals rfl

theorem headIdent (tag head : Byte) : QueueBlind p (Machine.headIdent o tag head) := by
  intro s queue
  unfold Machine.headIdent
  split
  · rfl
  · exact hostCommand ..

theorem headTest (tag head : Byte) : QueueBlind p (Machine.headTest o tag head) := by
  intro s queue
  unfold Machine.headTest
  rw [State.withQueue_cfg]
  split
  · rfl
  · split
    · exact hostCommand ..
    · rfl

/-! ### CFG and STORE -/

theorem leaseAcquire (tag wait : Byte) (period : BitVec 16) : QueueBlind p (Machine.leaseAcquire o tag wait period) := by
  intro s queue
  unfold Machine.leaseAcquire
  rw [State.withQueue_cfg]
  repeat' split
  all_goals rfl

theorem leaseRelease : QueueBlind p (Machine.leaseRelease o) := by
  intro s queue
  unfold Machine.leaseRelease
  rw [State.withQueue_cfg, State.withQueue_endLease]
  repeat' split
  all_goals rfl

/-- A request that needs the lease is blind when its use of the lease is (R131). -/
theorem asHolder {f : State → Lease → Answer} (blind : ∀ l, QueueBlind p fun s => f s l) :
    QueueBlind p fun s => Machine.asHolder o s (f s) := by
  intro s queue
  simp only [Machine.asHolder, State.withQueue_cfg]
  split
  · rfl
  · split
    · exact blind _ s queue
    · rfl

theorem stageCal (head group : Byte) (values : Mat3 (BitVec 32)) : QueueBlind p (Machine.stageCal o head group values) :=
  asHolder fun l s queue => by
    repeat' split
    all_goals rfl

theorem stageSource (mode : Byte) (holdOff : BitVec 16) : QueueBlind p (Machine.stageSource o mode holdOff) :=
  asHolder fun l s queue => by
    dsimp only
    split <;> rfl

theorem stageThresholds (gyro accel : BitVec 32) : QueueBlind p (Machine.stageThresholds o gyro accel) :=
  asHolder fun l s queue => by
    repeat' split
    all_goals rfl

theorem stageTiming (rate : BitVec 16) (mode : Byte) (scale : BitVec 16) :
    QueueBlind p (Machine.stageTiming o rate mode scale) :=
  asHolder fun l s queue => by
    repeat' split
    all_goals rfl

theorem stageRead : QueueBlind p (Machine.stageRead o) := asHolder fun _ => answer _ _

theorem stageDiscard : QueueBlind p (Machine.stageDiscard o) := asHolder fun _ _ _ => rfl

theorem activate : QueueBlind p (Machine.activate o) :=
  asHolder fun l s queue => by
    dsimp only
    split <;> rfl

theorem storeCommit (tag : Byte) : QueueBlind p (Machine.storeCommit o tag) := by
  intro s queue
  simp only [Machine.storeCommit, apply_ite Answer.state, apply_ite (State.withQueue · p queue)]
  rfl

end QueueBlind

/-- Every request but PORT_RESET is the end of its transaction with a part that is blind to the waiting replies. -/
theorem exec_queueBlind {i : Instr} {r : Req} {k : RequestKind} {payload : List Byte}
    (request : requestOf i = some (r, k, payload)) (other : k ≠ .portReset) :
    ∃ carry, (∀ s, exec i s = requestEnd r k carry s) ∧ QueueBlind r.port carry := by
  cases i with
  | portReset => cases request; exact absurd rfl other
  | identify | healthRead | timeRead | storeStatus => cases request; exact ⟨_, fun _ => rfl, .answer _ _⟩
  | condRead => cases request; exact ⟨_, fun _ => rfl, fun _ _ => rfl⟩
  | setAttention => cases request; exact ⟨_, fun _ => rfl, .setAttention _⟩
  | histRead => cases request; exact ⟨_, fun _ => rfl, .histRead _⟩
  | histPeek => cases request; exact ⟨_, fun _ => rfl, .histPeek⟩
  | histSeek => cases request; exact ⟨_, fun _ => rfl, .histSeek _ _⟩
  | histWatermark => cases request; exact ⟨_, fun _ => rfl, .histWatermark _⟩
  | deltaOpen => cases request; exact ⟨_, fun _ => rfl, .deltaOpen _ _ _ _ _⟩
  | deltaTake => cases request; exact ⟨_, fun _ => rfl, .deltaTake _⟩
  | deltaCollect => cases request; exact ⟨_, fun _ => rfl, .deltaCollect _⟩
  | deltaClose => cases request; exact ⟨_, fun _ => rfl, .deltaClose _ _⟩
  | deltaStatus => cases request; exact ⟨_, fun _ => rfl, .deltaStatus _⟩
  | calRead => cases request; exact ⟨_, fun _ => rfl, .calRead _ _⟩
  | headIdent => cases request; exact ⟨_, fun _ => rfl, .headIdent _ _⟩
  | headTest => cases request; exact ⟨_, fun _ => rfl, .headTest _ _⟩
  | leaseAcquire => cases request; exact ⟨_, fun _ => rfl, .leaseAcquire _ _ _⟩
  | leaseRelease => cases request; exact ⟨_, fun _ => rfl, .leaseRelease⟩
  | stageCal => cases request; exact ⟨_, fun _ => rfl, .stageCal _ _ _⟩
  | stageSource => cases request; exact ⟨_, fun _ => rfl, .stageSource _ _⟩
  | stageThresholds => cases request; exact ⟨_, fun _ => rfl, .stageThresholds _ _⟩
  | stageTiming => cases request; exact ⟨_, fun _ => rfl, .stageTiming _ _ _⟩
  | stageRead => cases request; exact ⟨_, fun _ => rfl, .stageRead⟩
  | stageDiscard => cases request; exact ⟨_, fun _ => rfl, .stageDiscard⟩
  | activate => cases request; exact ⟨_, fun _ => rfl, .activate⟩
  | storeCommit => cases request; exact ⟨_, fun _ => rfl, .storeCommit _⟩
  | _ => cases request

/-- The part of a request that the port hands on, or the NOT_READY of STARTING in its place (R173). -/
def unlessStarting (k : RequestKind) (carry : State → Answer) (s : State) : Answer :=
  if s.store.device = .starting ∧ k.inStarting = false then answer s .notReady else carry s

theorem QueueBlind.unlessStarting {p : Port} {carry : State → Answer} (blind : QueueBlind p carry) (k : RequestKind) :
    QueueBlind p (unlessStarting k carry) := by
  intro s queue
  unfold Machine.unlessStarting
  rw [State.withQueue_store]
  split
  · rfl
  · exact blind s queue

/-- A request in a transaction that is not EARLY gets one reply, behind those that wait (R173, R174). -/
theorem requestEnd_replies {r : Req} {k : RequestKind} {carry : State → Answer} {s : State}
    (progress : s.inTransaction r.port = true) :
    ∃ reply, requestEnd r k carry s =
      .next ((unlessStarting k carry (s.served r k)).state.appendReply r.port reply) := by
  obtain ⟨t, ht, late⟩ := s.inTransaction_some r.port progress
  rw [requestEnd, s.endTransaction_some _ _ _ t ht, late, unlessStarting]
  split
  · next starting => exact ⟨_, congrArg _ (if_pos starting)⟩
  · next goesOn => exact ⟨_, congrArg _ (if_neg goesOn)⟩

section FullQueue

variable (s : State) (p : Port)

theorem State.withQueue_inTransaction (queue : List QueuedReply) :
    (s.withQueue p queue).inTransaction p = s.inTransaction p := by
  have txn : (s.withQueue p queue).ports[p].txn = s.ports[p].txn := by rw [State.withQueue_port, if_pos rfl]
  rw [State.inTransaction, State.inTransaction, txn]

theorem State.appendReply_withQueue_nil (reply : Reply) :
    (s.withQueue p []).appendReply p reply = s.withQueue p [⟨reply, 0#8⟩] := by
  have empty : (s.withQueue p []).ports[p].queue = [] := by rw [State.withQueue_port, if_pos rfl]
  rw [State.appendReply_room _ _ _ (by rw [empty]; decide)]
  exact s.modifyPort_modifyPort p _ _

end FullQueue

/-- Settles O14: the block's part is blind to the waiting replies, so that only the reply itself tells the two runs apart. -/
theorem aReplyThatFindsAFullQueueIsDiscarded : Obligations.AReplyThatFindsAFullQueueIsDiscarded := by
  intro i r k payload s request other progress full
  obtain ⟨carry, run, blind⟩ := exec_queueBlind request other
  have blind := blind.unlessStarting k
  have waiting := blind.keeps (s.served r k)
  obtain ⟨reply, lost⟩ := requestEnd_replies (k := k) (carry := carry) progress
  obtain ⟨reply', queued⟩ := requestEnd_replies (k := k) (carry := carry)
    ((s.withQueue_inTransaction r.port []).trans progress)
  rw [State.appendReply_full _ _ _ (by rw [waiting, full]; decide)] at lost
  rw [State.served_withQueue_nil, blind, State.appendReply_withQueue_nil] at queued
  refine ⟨_, _, (run s).trans lost, (run _).trans queued, congrArg (State.raisePort .replyLost r.port) ?_, waiting,
    (State.mem_raisePort_same ..).2 (.inl rfl)⟩
  have restored := State.withQueue_self (unlessStarting k carry (s.served r k)).state r.port
  rw [waiting] at restored
  exact restored.symm.trans (State.withQueue_withQueue ..).symm

end Sys2Proof.Machine

/-! SUPPORT. Proofs about the queue of commands: what every command leaves of it, and the command that a step takes from it. -/

namespace Sys2Proof.Machine

-- One theorem at a time: the check gives every concurrent one a large stack of its own.
set_option Elab.async false

/-! ## Operations that leave the queue of commands alone -/

section Frame

variable (s : State) (p : Port) (x : Head)

theorem foldl_pending {α : Type} {f : State → α → State} (h : ∀ u a, (f u a).pending = u.pending) (l : List α) :
    (l.foldl f s).pending = s.pending :=
  List.foldlRecOn (motive := fun t => t.pending = s.pending) l f rfl fun u hu a _ => (h u a).trans hu

/-! ### Transactions and ports -/

theorem State.endTransaction_pending {n : Nat} {take : Bool → State → State}
    (h : ∀ early u, (take early u).pending = u.pending) : (s.endTransaction p n take).pending = s.pending := by
  fun_cases State.endTransaction
  · rfl
  · exact h _ _

@[simp] theorem chipSelectFall_pending (sooner : Bool) : (chipSelectFall p sooner s).pending = s.pending := by
  fun_cases chipSelectFall <;> rfl

@[simp] theorem takeMalformed_pending (bytes : List Byte) (found : Received) (early : Bool) :
    (takeMalformed p bytes found early s).pending = s.pending := by
  fun_cases takeMalformed <;> simp

@[simp] theorem completionArrival_pending (index : Nat) : (completionArrival index s).pending = s.pending := by
  fun_cases completionArrival <;> simp

@[simp] theorem setAttention_pending (mask : Byte) : (setAttention p mask s).state.pending = s.pending := by
  fun_cases setAttention <;> rfl

@[simp] theorem portReset_pending : (portReset p s).state.pending = s.pending := by rw [portReset_state]

/-! ### The time base -/

@[simp] theorem State.lockAt_pending (ref : LockRef) : (s.lockAt ref).pending = s.pending := by simp [State.lockAt]

@[simp] theorem rejectPulse_pending : (rejectPulse s).pending = s.pending := by simp [rejectPulse]

@[simp] theorem acquirePulse_pending : (acquirePulse s).pending = s.pending := by
  fun_cases acquirePulse <;> simp +zetaDelta

@[simp] theorem lockedPulse_pending (ref : LockRef) : (lockedPulse ref s).pending = s.pending := by
  fun_cases lockedPulse <;> simp +zetaDelta

@[simp] theorem holdoverPulse_pending (ref : LockRef) : (holdoverPulse ref s).pending = s.pending := by
  fun_cases holdoverPulse <;> simp

@[simp] theorem syncPulse_pending : (syncPulse s).pending = s.pending := by
  fun_cases syncPulse <;> simp

@[simp] theorem freeStrobe_pending : (freeStrobe s).pending = s.pending := by
  fun_cases freeStrobe <;> rfl

@[simp] theorem syncEdge_pending : (syncEdge s).pending = s.pending := by
  fun_cases syncEdge <;> rfl

@[simp] theorem fallbackCheck_pending : (fallbackCheck s).pending = s.pending := by
  fun_cases fallbackCheck <;> rfl

@[simp] theorem scheduledStrobe_pending : (scheduledStrobe s).pending = s.pending := by
  fun_cases scheduledStrobe <;> rfl

@[simp] theorem virtualOrigin_pending : (virtualOrigin s).pending = s.pending := by
  fun_cases virtualOrigin <;> simp

@[simp] theorem holdoverDeadline_pending : (holdoverDeadline s).pending = s.pending := by
  fun_cases holdoverDeadline <;> simp

@[simp] theorem holdoverEnd_pending : (holdoverEnd s).pending = s.pending := by
  fun_cases holdoverEnd <;> rfl

@[simp] theorem State.issueOverdue_pending : s.issueOverdue.pending = s.pending := by
  obtain e | ⟨-, -, e⟩ | ⟨-, -, e⟩ := s.issueOverdue_cases <;> simp [e]

@[simp] theorem State.changeTiming_pending (new : Timing) : (s.changeTiming new).pending = s.pending := by
  fun_cases State.changeTiming <;> simp

@[simp] theorem timingArrival_pending : (timingArrival s).pending = s.pending := by
  fun_cases timingArrival <;> simp

@[simp] theorem State.startStrobing_pending (timing : Timing) : (s.startStrobing timing).pending = s.pending := by
  fun_cases State.startStrobing <;> simp +zetaDelta

@[simp] theorem startUpLoad_pending : (startUpLoad s).pending = s.pending := by
  fun_cases startUpLoad <;> simp [endLoad, State.raiseLoadConditions]

/-! ### History -/

@[simp] theorem histRead_pending (max : Byte) : (histRead p max s).state.pending = s.pending := by
  fun_cases histRead <;> rfl

@[simp] theorem histPeek_pending : (histPeek p s).state.pending = s.pending := by
  fun_cases histPeek <;> rfl

@[simp] theorem histSeek_pending (form : Byte) (n : PubNum) : (histSeek p form n s).state.pending = s.pending := by
  fun_cases histSeek <;> rfl

@[simp] theorem histWatermark_pending (value : BitVec 16) : (histWatermark p value s).state.pending = s.pending := by
  fun_cases histWatermark <;> rfl

@[simp] theorem State.overrunPort_pending (dropped : PubNum) : (s.overrunPort dropped p).pending = s.pending := by
  fun_cases State.overrunPort <;> rfl

@[simp] theorem State.appendRecord_pending (q : Publication) : (s.appendRecord q).pending = s.pending := by
  unfold State.appendRecord
  split <;> simp [State.dropOldest]

@[simp] theorem appendArrival_pending : (appendArrival s).pending = s.pending := by
  fun_cases appendArrival <;> simp

/-! ### Delta contexts -/

@[simp] theorem State.liveAt_pending (q : Publication) (n : CtxNum) : (s.liveAt q n).pending = s.pending := by
  rw [State.liveAt_eq, State.entryAt_eq]

@[simp] theorem State.dropAt_pending (dropped : PubNum) (n : CtxNum) : (s.dropAt dropped n).pending = s.pending := by
  rw [State.dropAt_eq, State.entryAt_eq]

@[simp] theorem deltaArrival_pending : (deltaArrival s).pending = s.pending := by
  fun_cases deltaArrival
  · rfl
  · exact foldl_pending _ (by simp) _

@[simp] theorem dropArrival_pending : (dropArrival s).pending = s.pending := by
  fun_cases dropArrival
  · rfl
  · exact foldl_pending _ (by simp) _

@[simp] theorem State.finishWalk_pending (n : CtxNum) (e : Entry) : (s.finishWalk n e).pending = s.pending := by
  fun_cases State.finishWalk <;> simp

@[simp] theorem walkStep_pending (n : CtxNum) : (walkStep n s).pending = s.pending := by
  fun_cases walkStep <;> simp

@[simp] theorem deltaOpen_pending (tag : Byte) (label period : BitVec 16) (form : Byte) (n : PubNum) :
    (deltaOpen p tag label period form n s).state.pending = s.pending := by
  fun_cases deltaOpen <;> rfl

@[simp] theorem deltaTake_pending (ctx : Byte) : (deltaTake p ctx s).state.pending = s.pending := by
  fun_cases deltaTake <;> rfl

@[simp] theorem deltaCollect_pending (ctx : Byte) : (deltaCollect p ctx s).state.pending = s.pending := by
  fun_cases deltaCollect <;> rfl

@[simp] theorem deltaClose_pending (ctx discard : Byte) : (deltaClose p ctx discard s).state.pending = s.pending := by
  fun_cases deltaClose <;> rfl

@[simp] theorem deltaStatus_pending (ctx : Byte) : (deltaStatus p ctx s).state.pending = s.pending := by
  fun_cases deltaStatus <;> rfl

/-! ### The lease and the staged image -/

@[simp] theorem leaseAcquire_pending (tag wait : Byte) (period : BitVec 16) :
    (leaseAcquire p tag wait period s).state.pending = s.pending := by
  fun_cases leaseAcquire <;> rfl

@[simp] theorem leaseRelease_pending : (leaseRelease p s).state.pending = s.pending := by
  fun_cases leaseRelease <;> simp

@[simp] theorem leaseExpiry_pending : (leaseExpiry s).pending = s.pending := by
  fun_cases leaseExpiry <;> simp

theorem asHolder_pending {f : Lease → Answer} (h : ∀ l, (f l).state.pending = s.pending) :
    (asHolder p s f).state.pending = s.pending := by
  fun_cases asHolder
  · rfl
  · exact h _
  · rfl

@[simp] theorem stageCal_pending (head group : Byte) (values : Mat3 (BitVec 32)) :
    (stageCal p head group values s).state.pending = s.pending := by
  refine asHolder_pending s p fun l => ?_
  split
  · rfl
  · rfl
  · split <;> rfl

@[simp] theorem stageSource_pending (mode : Byte) (holdOff : BitVec 16) :
    (stageSource p mode holdOff s).state.pending = s.pending := by
  refine asHolder_pending s p fun l => ?_
  split <;> rfl

@[simp] theorem stageThresholds_pending (gyro accel : BitVec 32) :
    (stageThresholds p gyro accel s).state.pending = s.pending := by
  refine asHolder_pending s p fun l => ?_
  split
  · rfl
  · split <;> rfl

@[simp] theorem stageTiming_pending (rate : BitVec 16) (mode : Byte) (scale : BitVec 16) :
    (stageTiming p rate mode scale s).state.pending = s.pending := by
  refine asHolder_pending s p fun l => ?_
  split <;> rfl

@[simp] theorem stageRead_pending : (stageRead p s).state.pending = s.pending := asHolder_pending s p fun _ => rfl

@[simp] theorem stageDiscard_pending : (stageDiscard p s).state.pending = s.pending := asHolder_pending s p fun _ => rfl

@[simp] theorem activate_pending : (activate p s).state.pending = s.pending := by
  refine asHolder_pending s p fun l => ?_
  split <;> rfl

/-! ### Calibration, store and conditions -/

@[simp] theorem calRead_pending (head form : Byte) : (calRead p head form s).state.pending = s.pending := by
  fun_cases calRead <;> rfl

@[simp] theorem storeCommit_pending (tag : Byte) : (storeCommit p tag s).state.pending = s.pending := by
  fun_cases storeCommit <;> simp

@[simp] theorem erasingEnd_pending : (erasingEnd s).pending = s.pending := by
  fun_cases erasingEnd <;> rfl

@[simp] theorem writingEnd_pending (outcome : MediumOutcome) : (writingEnd outcome s).pending = s.pending := by
  fun_cases writingEnd <;> rfl

@[simp] theorem verifyingEnd_pending : (verifyingEnd s).pending = s.pending := by
  fun_cases verifyingEnd <;> simp [State.commitDone, State.commitFailed]

@[simp] theorem levelArrival_pending : (levelArrival s).pending = s.pending := by
  fun_cases levelArrival
  · rfl
  · exact foldl_pending _ (by simp) _

/-! ### Windows -/

@[simp] theorem State.openWindow_pending (strobe : Strobe) : (s.openWindow strobe).pending = s.pending := by
  fun_cases State.openWindow <;> simp +zetaDelta

@[simp] theorem State.strobeAtSel_pending (strobe : Strobe) : (s.strobeAtSel strobe).pending = s.pending := by
  unfold State.strobeAtSel
  split <;> simp

@[simp] theorem strobeArrival_pending : (strobeArrival s).pending = s.pending := by
  fun_cases strobeArrival <;> simp

@[simp] theorem State.recordFrame_pending (f : SampleFrame) : (s.recordFrame x f).pending = s.pending := by
  fun_cases State.recordFrame <;> simp +zetaDelta

/-! ### Head links -/

@[simp] theorem State.keepIdentifying_pending : (s.keepIdentifying x).pending = s.pending := by
  fun_cases State.keepIdentifying <;> simp

@[simp] theorem State.checkSilence_pending : (s.checkSilence x).pending = s.pending := by
  fun_cases State.checkSilence <;> simp [State.enterAbsent]

@[simp] theorem State.linkError_pending (e : LinkError) : (s.linkError x e).pending = s.pending := by
  fun_cases State.linkError <;> simp +zetaDelta [State.enterFaulted]

@[simp] theorem sampleArrival_pending (f : SampleFrame) : (sampleArrival x f s).pending = s.pending := by
  fun_cases sampleArrival <;> simp [State.acceptSample_eq, State.sampled]

@[simp] theorem State.identify_pending (serial : BitVec 32) : (s.identify x serial).pending = s.pending := by
  fun_cases State.identify <;> rfl

@[simp] theorem State.acceptResponse_pending (body : ResponseBody) : (s.acceptResponse x body).pending = s.pending := by
  fun_cases State.acceptResponse <;> simp +zetaDelta

@[simp] theorem responseArrival_pending (body : ResponseBody) : (responseArrival x body s).pending = s.pending := by
  fun_cases responseArrival <;> simp

@[simp] theorem brokenArrival_pending (bytes : List Byte) : (brokenArrival x bytes s).pending = s.pending := by
  fun_cases brokenArrival <;> simp

@[simp] theorem commandTimeout_pending : (commandTimeout x s).pending = s.pending := by
  fun_cases commandTimeout <;> simp

@[simp] theorem missArrival_pending : (missArrival x s).pending = s.pending := by
  fun_cases missArrival <;> simp

@[simp] theorem State.strobeAt_pending (number : BitVec 8) : (s.strobeAt x number).pending = s.pending := by
  fun_cases State.strobeAt <;> simp +zetaDelta

@[simp] theorem strobeAtLink_pending : (strobeAtLink x s).pending = s.pending := by
  fun_cases strobeAtLink <;> simp

@[simp] theorem hostCommand_pending (k : CommandKind) (tag : Byte) :
    (hostCommand x k p tag s).state.pending = s.pending := by
  fun_cases hostCommand <;> rfl

@[simp] theorem headIdent_pending (tag head : Byte) : (headIdent p tag head s).state.pending = s.pending := by
  fun_cases headIdent <;> simp

@[simp] theorem headTest_pending (tag head : Byte) : (headTest p tag head s).state.pending = s.pending := by
  fun_cases headTest <;> simp

end Frame

/-! ## Commands that complete -/

/-- A command taken in `s` answers a next state, in which the same commands wait. -/
def Completes (s : State) (out : Out) : Prop := ∃ t, out = .next t ∧ t.pending = s.pending

namespace Completes

variable {s : State}

theorem next {t : State} (h : t.pending = s.pending) : Completes s (.next t) := ⟨t, rfl, h⟩

/-- An event that the hub takes, or that finds it held in part reset or unpowered (R191). -/
theorem whileRunning {f : State → State} (h : ∀ u, (f u).pending = u.pending) : Completes s (whileRunning f s) := by
  fun_cases Machine.whileRunning
  · exact next (h s)
  · exact next rfl

/-- A request completes as its own part does: the rest is the end of its transaction and its reply (R171 to R174). -/
theorem requestEnd {r : Req} {k : RequestKind} {carry : State → Answer}
    (h : ∀ u, (carry u).state.pending = u.pending) : Completes s (requestEnd r k carry s) := by
  refine next (s.endTransaction_pending r.port fun early u => ?_)
  fun_cases takeRequest <;> simp +zetaDelta [h]

theorem carryOut (i : Instr) : Completes s (carryOut i s) := by
  cases i with
  | identify | healthRead | timeRead | storeStatus | condRead => exact requestEnd fun _ => rfl
  | portReset | setAttention | histRead | histPeek | histSeek | histWatermark | deltaOpen | deltaTake | deltaCollect
  | deltaClose | deltaStatus | calRead | headIdent | headTest | leaseAcquire | leaseRelease | stageCal | stageSource
  | stageThresholds | stageTiming | stageRead | stageDiscard | activate | storeCommit => exact requestEnd (by simp)
  | _ => exact next rfl

theorem malformedRequest (p : Port) (bytes : List Byte) : Completes s (execMalformedRequest p bytes s) := by
  fun_cases execMalformedRequest
  · exact next (s.endTransaction_pending p fun _ _ => rfl)
  · exact carryOut _
  · exact next (s.endTransaction_pending p fun _ _ => takeMalformed_pending ..)
  · exact next (s.endTransaction_pending p fun _ _ => takeMalformed_pending ..)
  · exact next (s.endTransaction_pending p fun _ _ => takeMalformed_pending ..)

/-- The commands that wait are none of what a part reset sets (R191). -/
theorem partReset (cause : ResetCause) : Completes s (execPartReset cause s) := by
  fun_cases execPartReset <;> exact next rfl

theorem resetRelease : Completes s (execResetRelease s) := by
  fun_cases execResetRelease <;> exact next rfl

/-- Requests are carried out in the one way; resets and chip select are taken at any time; every other event waits for the
hub to run (R191). -/
theorem exec (c : Instr) : Completes s (exec c s) := by
  by_cases request : (requestOf c).isSome = true
  · rw [exec_request request]
    exact carryOut c
  cases c with
  | partReset cause => exact partReset cause
  | resetRelease => exact resetRelease
  | powerLoss => exact next rfl
  | chipSelectFall => exact next (chipSelectFall_pending ..)
  | nop => exact next (s.endTransaction_pending _ fun _ _ => rfl)
  | malformedRequest p bytes => exact malformedRequest p bytes
  | startUpLoad | freeStrobe | syncEdge | fallbackCheck | syncPulse | scheduledStrobe | virtualOrigin | holdoverDeadline
  | holdoverEnd | timingChange | erasingEnd | writingEnd | verifyingEnd | completionArrival | leaseExpiry | strobeAtSel
  | strobeAtLink | sample | response | crcError | commandTimeout | miss | append | publicationAtDelta | walkStep
  | dropAtDelta | levelReEvaluation => exact whileRunning (by simp)
  | _ => exact absurd rfl request

end Completes

/-- Settles O3: each command is a next state made by operations that leave the queue of commands alone. -/
theorem everyCommandCompletesAndKeepsTheQueue : Obligations.EveryCommandCompletesAndKeepsTheQueue := by
  intro c s
  exact Completes.exec c

/-- Settles O1: a step looks at the queue alone, and takes its front command off before it is carried out. -/
theorem stepRunsTheFrontCommand : Obligations.StepRunsTheFrontCommand := by
  intro c rest s
  rfl

end Sys2Proof.Machine

/-! SUPPORT. Proofs about the head links (spec/05): their messages as bytes, errors and their charge, the end of a head command,
strobes, and the commands of a host. -/

namespace Sys2Proof.Machine

-- One theorem at a time: the check gives every concurrent one a large stack of its own.
set_option Elab.async false

/-! ## Upstream messages (section 11.8) -/

theorem length_sealed (body : List Byte) : (sealed body).length = body.length + 2 := by simp [sealed]

/-- The check stands behind the bytes that it covers (R186). -/
theorem holdsAt_sealed (body : List Byte) : HoldsAt (sealed body) 0 body := List.prefix_append ..

theorem HoldsAt.rawTriple_eq {bytes : List Byte} {at_ : Nat} {t : Triple (BitVec 24)}
    (h : HoldsAt bytes at_ (tripleBytes 3 t)) : rawTriple bytes at_ = t := by
  have row : tripleBytes 3 t = field 3 t.x ++ (field 3 t.y ++ field 3 t.z) := by simp [tripleBytes, Triple.toList]
  simp only [row, holdsAt_append, Laws.length_field] at h
  obtain ⟨hx, hy, hz⟩ := h
  rw [rawTriple, hx.payloadField_eq le_rfl, hy.payloadField_eq le_rfl, hz.payloadField_eq le_rfl]

/-- A SAMPLE before its check (R81). -/
def sampleBody (f : SampleFrame) : List Byte :=
  0x01#8 :: f.echo :: f.status :: (tripleBytes 3 f.gyro ++ tripleBytes 3 f.accel ++ field 2 f.temp)

theorem length_sampleBody (f : SampleFrame) : (sampleBody f).length = 23 := by simp [sampleBody]

theorem decodeUpstream_sample (x : Head) (f : SampleFrame) :
    decodeUpstream x (sealed (sampleBody f)) = some (.sample x f) := by
  have length : (sealed (sampleBody f)).length = 25 := by rw [length_sealed, length_sampleBody]
  have holds := holdsAt_sealed (sampleBody f)
  nth_rw 2 [sampleBody] at holds
  obtain ⟨type, holds⟩ := holds.cons
  obtain ⟨echo, holds⟩ := holds.cons
  obtain ⟨status, holds⟩ := holds.cons
  simp only [List.append_assoc, holdsAt_append, length_tripleBytes] at holds
  obtain ⟨gyro, accel, temp⟩ := holds
  rw [decodeUpstream, if_neg (not_not.2 (checkMatches_sealed _)), length, type, echo, status, gyro.rawTriple_eq,
    accel.rawTriple_eq, temp.payloadField_eq le_rfl]
  rfl

theorem decodeUpstream_identify (x : Head) (serial : BitVec 32) (model : BitVec 16) :
    decodeUpstream x (sealed (0x02#8 :: 1#8 :: (field 4 serial ++ field 2 model))) =
      some (.response x (.identify serial model)) := by
  have length : (sealed (0x02#8 :: 1#8 :: (field 4 serial ++ field 2 model))).length = 10 := by simp [length_sealed]
  obtain ⟨type, holds⟩ := (holdsAt_sealed (0x02#8 :: 1#8 :: (field 4 serial ++ field 2 model))).cons
  obtain ⟨kind, holds⟩ := holds.cons
  obtain ⟨serial, model⟩ := holdsAt_append.1 holds
  rw [Laws.length_field] at model
  rw [decodeUpstream, if_neg (not_not.2 (checkMatches_sealed _)), length, type, kind, serial.payloadField_eq le_rfl,
    model.payloadField_eq le_rfl]
  rfl

theorem decodeUpstream_selfTest (x : Head) (outcome failSet : Byte) :
    decodeUpstream x (sealed [0x02#8, 2#8, outcome, failSet]) = some (.response x (.selfTest outcome failSet)) := by
  have length : (sealed [0x02#8, 2#8, outcome, failSet]).length = 6 := length_sealed _
  obtain ⟨type, holds⟩ := (holdsAt_sealed [0x02#8, 2#8, outcome, failSet]).cons
  obtain ⟨kind, holds⟩ := holds.cons
  obtain ⟨outcome, failSet⟩ := holds.cons
  rw [decodeUpstream, if_neg (not_not.2 (checkMatches_sealed _)), length, type, kind, outcome, failSet.byteAt_eq]
  rfl

/-- Settles O11: the type, the length and the kind tell the three messages apart, and each field is read from its offset. -/
theorem everyUpstreamMessageDecodesToItsFrame : Obligations.EveryUpstreamMessageDecodesToItsFrame := by
  refine ⟨fun x f => ⟨sealed (sampleBody f), rfl, ?_, decodeUpstream_sample x f⟩,
    fun x serial model => ⟨_, rfl, ?_, decodeUpstream_identify x serial model⟩,
    fun x outcome failSet => ⟨_, rfl, length_sealed _, decodeUpstream_selfTest x outcome failSet⟩⟩
  · rw [length_sealed, length_sampleBody]
  · simp [length_sealed]

/-! ## Errors and their charge (R85, R89, R91) -/

theorem State.modifyLink_modifyLink (s : State) (x : Head) (f g : Link → Link) :
    (s.modifyLink x f).modifyLink x g = s.modifyLink x fun l => g (f l) := by
  simp only [State.modifyLink, Pair.get_set_same, Pair.set_set]

/-- A link that goes to FAULTED loses the command in its slot (R89, R95). -/
theorem State.enterFaulted_eq (x : Head) (s : State) :
    s.enterFaulted x =
      (({ s with
          arrivals :=
            { s.arrivals with
              completions :=
                s.arrivals.completions ++ (s.links.get x).completionOf x .linkLost .none } } : State).modifyLink x
        fun l =>
          { l with
            state := .faulted, tally := 0, silence := 0, slot := none,
            lastResult := l.resultAfter .linkLost .none }).raise (.linkFault x) := by
  simp only [State.enterFaulted, State.endCommand_linkLost, State.modifyLink, Pair.get_set_same, Pair.set_set]
  rfl

/-- A link that goes to ABSENT loses the command in its slot (R91, R95). -/
theorem State.enterAbsent_eq (x : Head) (s : State) :
    s.enterAbsent x =
      (({ s with
          arrivals :=
            { s.arrivals with
              completions :=
                s.arrivals.completions ++ (s.links.get x).completionOf x .linkLost .none } } : State).modifyLink x
        fun l =>
          { l with
            state := .absent, tally := 0, goodCount := 0, confirmed := false, silence := 0, slot := none,
            lastResult := l.resultAfter .linkLost .none }).raise (.linkLost x) := by
  simp only [State.enterAbsent, State.endCommand_linkLost, State.modifyLink, Pair.get_set_same, Pair.set_set]
  rfl

theorem State.checkSilence_heard {x : Head} {s : State} (h : (s.links.get x).silence < 64) : s.checkSilence x = s :=
  if_neg (not_le.2 h)

theorem State.checkSilence_lost {x : Head} {s : State} (h : 64 ≤ (s.links.get x).silence) :
    s.checkSilence x = s.enterAbsent x := if_pos h

/-- Of the errors a miss alone counts as silence (R91). -/
theorem Link.silent_eq (l : Link) (e : LinkError) :
    l.silent e = { l with silence := l.silence + if e = .missed then 1 else 0 } := by cases e <;> rfl

/-- Counting an error changes its counter alone (R85). -/
theorem Link.countError_eq (l : Link) (e : LinkError) :
    ∃ crcErrors lates mismatches missed, l.countError e =
      { l with crcErrors := crcErrors, lates := lates, mismatches := mismatches, missed := missed } := by
  cases e <;> exact ⟨_, _, _, _, rfl⟩

section Charge

variable {x : Head} {s : State} {l : Link} {e : LinkError} {quiet : Nat} (hl : l = s.links.get x)
include hl

/-- ABSENT and FAULTED only count an error (R85, R92). -/
theorem State.linkError_counted (state : l.state = .absent ∨ l.state = .faulted) :
    s.linkError x e = s.modifyLink x fun _ => l.countError e := by
  subst hl
  obtain state | state := state <;> rw [State.linkError, state] <;> rfl

variable (hq : quiet = l.silence + if e = .missed then 1 else 0)
include hq

/-- In SYNCING an error ends the run of good frames, and a miss counts as silence (R87, R91). -/
theorem State.linkError_syncing (state : l.state = .syncing) :
    s.linkError x e =
      (s.modifyLink x fun _ => { l.countError e with goodCount := 0, silence := quiet }).checkSilence x := by
  subst hl hq
  obtain ⟨_, _, _, _, counted⟩ := (s.links.get x).countError_eq e
  rw [State.linkError, state]
  simp only [State.modifyLink_modifyLink, Link.silent_eq]
  simp only [State.modifyLink, counted]

/-- In FOREIGN a miss counts as silence (R91, R93). -/
theorem State.linkError_foreign (state : l.state = .foreign) :
    s.linkError x e = (s.modifyLink x fun _ => { l.countError e with silence := quiet }).checkSilence x := by
  subst hl hq
  obtain ⟨_, _, _, _, counted⟩ := (s.links.get x).countError_eq e
  rw [State.linkError, state]
  simp only [State.modifyLink_modifyLink, Link.silent_eq]
  simp only [State.modifyLink, counted]

/-- In UP an error adds its weight to the tally; at 64 the link is FAULTED, before the silence is looked at (R89, log 17). -/
theorem State.linkError_up (state : l.state = .up) :
    s.linkError x e =
      if 64 ≤ l.tally + e.weight then
        (s.modifyLink x fun _ => { l.countError e with tally := l.tally + e.weight, silence := quiet }).enterFaulted x
      else
        (s.modifyLink x fun _ => { l.countError e with tally := l.tally + e.weight, silence := quiet }).checkSilence x := by
  subst hl hq
  obtain ⟨_, _, _, _, counted⟩ := (s.links.get x).countError_eq e
  rw [State.linkError, state]
  simp only [State.modifyLink_modifyLink, Link.silent_eq]
  simp only [State.modifyLink, counted, Pair.get_set_same]
  rfl

end Charge

section Lost

variable {x : Head} {s : State} {l : Link} {e : LinkError} {quiet : Nat} (hl : l = s.links.get x)
  (hq : quiet = l.silence + if e = .missed then 1 else 0)
include hl hq

/-- A tally of 64 makes the link FAULTED with LINK_FAULT (R89, R95, R99). -/
theorem State.linkError_faults (state : l.state = .up) (full : 64 ≤ l.tally + e.weight) :
    s.linkError x e =
      (({ s with
          arrivals :=
            { s.arrivals with
              completions := s.arrivals.completions ++ l.completionOf x .linkLost .none } } : State).modifyLink
        x fun _ =>
          { l.countError e with
            state := .faulted, tally := 0, silence := 0, slot := none,
            lastResult := l.resultAfter .linkLost .none }).raise (.linkFault x) := by
  obtain ⟨_, _, _, _, counted⟩ := l.countError_eq e
  rw [State.linkError_up hl hq state, if_pos full, State.enterFaulted_eq]
  simp only [State.modifyLink, Pair.get_set_same, Pair.set_set, counted]
  rfl

/-- 64 misses in a row make the link ABSENT with LINK_LOST (R91, R95, R99). -/
theorem State.linkError_loses
    (state : l.state = .syncing ∨ l.state = .foreign ∨ l.state = .up ∧ l.tally + e.weight < 64) (silent : 64 ≤ quiet) :
    s.linkError x e =
      (({ s with
          arrivals :=
            { s.arrivals with
              completions := s.arrivals.completions ++ l.completionOf x .linkLost .none } } : State).modifyLink
        x fun _ =>
          { l.countError e with
            state := .absent, tally := 0, goodCount := 0, confirmed := false, silence := 0, slot := none,
            lastResult := l.resultAfter .linkLost .none }).raise (.linkLost x) := by
  obtain ⟨_, _, _, _, counted⟩ := l.countError_eq e
  have lost {u : State} (h : s.linkError x e = u.checkSilence x) (hu : 64 ≤ (u.links.get x).silence) :
      s.linkError x e = u.enterAbsent x := h.trans (State.checkSilence_lost hu)
  obtain state | state | ⟨state, few⟩ := state
  · rw [lost (State.linkError_syncing hl hq state) (by simpa using silent), State.enterAbsent_eq]
    simp only [State.modifyLink, Pair.get_set_same, Pair.set_set, counted]
    rfl
  · rw [lost (State.linkError_foreign hl hq state) (by simpa using silent), State.enterAbsent_eq]
    simp only [State.modifyLink, Pair.get_set_same, Pair.set_set, counted]
    rfl
  · have charged := State.linkError_up hl hq state
    rw [if_neg few.not_ge] at charged
    rw [lost charged (by simpa using silent), State.enterAbsent_eq]
    simp only [State.modifyLink, Pair.get_set_same, Pair.set_set, counted]
    rfl

end Lost

/-! ### What arrives at a link (R83) -/

section Arrives

variable {x : Head} {s : State} (power : s.power = .running)
include power

theorem exec_crcError_broken {bytes : List Byte} (broken : decodeUpstream x bytes = none) :
    exec (.crcError x bytes) s = .next ((s.linkError x .crcError).keepIdentifying x) := by
  refine (whileRunning_running (brokenArrival x bytes) s power).trans (congrArg _ ?_)
  rw [brokenArrival, broken]

/-- A SAMPLE that does not answer the current strobe, or not as the first of its link, is LATE or a MISMATCH (R46, R83). -/
theorem exec_sample_refused {f : SampleFrame}
    (refused : s.sel.current.map Strobe.number ≠ some f.echo ∨ s.sel.frames.get x ≠ none) :
    exec (.sample x f) s =
      .next ((s.linkError x (if s.sel.previous = some f.echo then .late else .mismatch)).keepIdentifying x) := by
  have classified : s.sel.classify x f.echo = some (if s.sel.previous = some f.echo then .late else .mismatch) := by
    rw [Selector.classify, if_neg fun ⟨echo, fresh⟩ => refused.elim (· echo) (· (Option.isNone_iff_eq_none.1 fresh))]
    split <;> rfl
  refine (whileRunning_running (sampleArrival x f) s power).trans (congrArg _ ?_)
  rw [sampleArrival, classified]

theorem exec_response_unawaited {body : ResponseBody}
    (other : (s.links.get x).slot.map Command.kind ≠ some (responseKind body)) :
    exec (.response x body) s = .next ((s.linkError x .mismatch).keepIdentifying x) :=
  (whileRunning_running (responseArrival x body) s power).trans (congrArg _ (if_neg other))

theorem exec_miss {n : Nat} (flying : s.arrivals.misses.get x = n + 1) :
    exec (.miss x) s =
      .next ((({ s with
          arrivals := { s.arrivals with misses := s.arrivals.misses.set x n } } : State).linkError x
        .missed).keepIdentifying x) := by
  refine (whileRunning_running (missArrival x) s power).trans (congrArg _ ?_)
  rw [missArrival, flying]

end Arrives

/-- Settles O35: what arrives is an error of one kind, and the state of the link says what the error does to it. -/
theorem errorsAreCountedAndChargedToTheirLink : Obligations.ErrorsAreCountedAndChargedToTheirLink := by
  refine ⟨fun x s power => ⟨fun bytes => exec_crcError_broken power, fun f refused => ⟨fun late => ?_, fun other => ?_⟩,
    fun body => exec_response_unawaited power, fun n => exec_miss power⟩, fun x s l e quiet hl hq =>
    ⟨State.linkError_counted hl, fun state heard => ?_, fun state heard => ?_, fun state few heard => ?_,
      State.linkError_faults hl hq, State.linkError_loses hl hq, rfl, rfl, rfl, rfl⟩⟩
  · rw [exec_sample_refused power refused, if_pos late]
  · rw [exec_sample_refused power refused, if_neg other]
  · rw [State.linkError_syncing hl hq state, State.checkSilence_heard (by simpa using heard)]
  · rw [State.linkError_foreign hl hq state, State.checkSilence_heard (by simpa using heard)]
  · rw [State.linkError_up hl hq state, if_neg few.not_ge, State.checkSilence_heard (by simpa using heard)]

/-! ## The end of a head command (R88, R95, R99) -/

/-- An EMPTY slot is given an internal IDENTIFY exactly while the link is SYNCING and unconfirmed (R88). -/
theorem Link.identifying_ended (l : Link) (result : Result) (detail : CommandDetail) (now : Micros) :
    Link.identifying now { l with slot := none, lastResult := l.resultAfter result detail } =
      l.afterCommand result detail now := by
  unfold Link.identifying Link.afterCommand
  by_cases h : l.state = .syncing ∧ l.confirmed = false <;> simp [h]

/-- A command that ends, and the IDENTIFY that follows it at once where R88 asks for one. -/
theorem State.endCommand_keepIdentifying (x : Head) (result : Result) (detail : CommandDetail) (s : State) :
    (s.endCommand x result detail).keepIdentifying x =
      { s with
        links := s.links.set x ((s.links.get x).afterCommand result detail s.tb.counter),
        cond :=
          if result = .fail ∧ (s.links.get x).slot ≠ none then (s.raise (.headSelfTestFail x)).cond else s.cond,
        arrivals :=
          { s.arrivals with
            completions := s.arrivals.completions ++ (s.links.get x).completionOf x result detail } } := by
  simp only [State.keepIdentifying_eq, State.endCommand_eq, State.modifyLink, Pair.get_set_same, Pair.set_set,
    Link.identifying_ended]

theorem Link.afterCommand_accepted (l : Link) (n : BitVec 32) (result : Result) (detail : CommandDetail) (now : Micros) :
    ({ l with accepted := n } : Link).afterCommand result detail now =
      { l.afterCommand result detail now with accepted := n } := by
  unfold Link.afterCommand
  split <;> rfl

/-- The result and the detail with which a RESPONSE ends its command (R95, R97, log 19). -/
def responseOutcome : ResponseBody → Result × CommandDetail
  | .identify serial model => (.done, .identity serial model)
  | .selfTest outcome failSet =>
    if outcomePass outcome then (.pass, .failSet 0#6) else (.fail, .failSet (statusFaults failSet))

/-- Unless it is an IDENTIFY that SYNCING compares, an accepted RESPONSE is counted and ends its command (R84, R95). -/
theorem State.acceptResponse_ends {x : Head} {body : ResponseBody} {s : State}
    (h : (s.links.get x).state = .syncing → responseKind body = .selfTest) :
    s.acceptResponse x body =
      (s.modifyLink x fun l => { l with accepted := satInc l.accepted }).endCommand x (responseOutcome body).1
        (responseOutcome body).2 := by
  cases body with
  | identify serial model =>
    have settled : (s.links.get x).state ≠ .syncing := fun state => nomatch h state
    rw [State.acceptResponse_identify, State.identify, if_neg (by rwa [State.answered_state])]
    simp only [State.endCommand_eq, State.modifyLink, Pair.get_set_same, Pair.set_set]
    rfl
  | selfTest outcome failSet =>
    unfold State.acceptResponse responseOutcome
    dsimp only
    split <;> rfl

/-- A RESPONSE of the kind in the slot, the comparison of SYNCING apart (R95, R97). -/
theorem exec_response_ends {x : Head} {body : ResponseBody} {s : State} {c : Command} (power : s.power = .running)
    (slot : (s.links.get x).slot = some c) (kind : c.kind = responseKind body)
    (uncompared : (s.links.get x).state = .syncing → c.kind = .selfTest) :
    exec (.response x body) s =
      .next { s with
        links :=
          s.links.set x
            { (s.links.get x).afterCommand (responseOutcome body).1 (responseOutcome body).2 s.tb.counter with
              accepted := satInc (s.links.get x).accepted },
        cond := if (responseOutcome body).1 = .fail then (s.raise (.headSelfTestFail x)).cond else s.cond,
        arrivals :=
          { s.arrivals with
            completions :=
              s.arrivals.completions
                ++ (s.links.get x).completionOf x (responseOutcome body).1 (responseOutcome body).2 } } := by
  refine (whileRunning_running (responseArrival x body) s power).trans (congrArg _ ?_)
  have busy : (s.links.get x).slot ≠ none := by rw [slot]; exact nofun
  rw [responseArrival_awaited slot kind, State.acceptResponse_ends fun state => kind ▸ uncompared state,
    State.endCommand_keepIdentifying]
  simp only [State.modifyLink, Pair.get_set_same, Pair.set_set, Link.afterCommand_accepted, busy, ne_eq,
    not_false_eq_true, and_true]
  rfl

section Timeout

variable {x : Head} {s : State}

theorem exec_commandTimeout_early (h : s.commandTimeoutDue x = false) : exec (.commandTimeout x) s = .next s := by
  have stays : commandTimeout x s = s := if_neg (Bool.eq_false_iff.1 h)
  change whileRunning (commandTimeout x) s = _
  rw [whileRunning, stays, ite_self]

theorem State.commandTimeoutDue_eq {c : Command} (slot : (s.links.get x).slot = some c) :
    s.commandTimeoutDue x = decide (100000 ≤ s.since c.sentAt) := by
  rw [State.commandTimeoutDue, slot]
  rfl

/-- A command that has waited 100 ms ends with TIMEOUT (R95). -/
theorem exec_commandTimeout_due (power : s.power = .running) (h : s.commandTimeoutDue x = true) :
    exec (.commandTimeout x) s =
      .next { s with
        links := s.links.set x ((s.links.get x).afterCommand .timeout .none s.tb.counter),
        arrivals :=
          { s.arrivals with
            completions := s.arrivals.completions ++ (s.links.get x).completionOf x .timeout .none } } := by
  refine (whileRunning_running (commandTimeout x) s power).trans (congrArg _ ?_)
  rw [commandTimeout, if_pos h, State.endCommand_keepIdentifying]
  rfl

end Timeout

/-- Settles O36: a RESPONSE ends its command with the outcome of its body, and a timeout with TIMEOUT when it is due. -/
theorem aCommandEndsByItsResponseOrItsTimeout : Obligations.ACommandEndsByItsResponseOrItsTimeout := by
  refine ⟨⟨rfl, rfl⟩, fun x s empty => exec_commandTimeout_early (by rw [State.commandTimeoutDue, empty]), ?_⟩
  rintro x s l c power rfl slot
  refine ⟨fun body result detail answers kind uncompared => ?_, fun early => ?_, fun due => ?_⟩
  · have outcome : responseOutcome body = (result, detail) := by
      obtain ⟨_, _, rfl, rfl, rfl⟩ | ⟨_, _, rfl, pass, rfl, rfl⟩ | ⟨_, _, rfl, fail, rfl, rfl⟩ := answers
      · rfl
      · exact if_pos pass
      · exact if_neg (Bool.eq_false_iff.1 fail)
    refine ⟨_, exec_response_ends power slot kind uncompared, ?_⟩
    rw [outcome]
    exact ⟨rfl, fun fail => if_pos fail, fun other => if_neg other, rfl, rfl⟩
  · exact exec_commandTimeout_early (by rw [State.commandTimeoutDue_eq slot]; exact decide_eq_false (not_le.2 early))
  · exact exec_commandTimeout_due power (by rw [State.commandTimeoutDue_eq slot]; exact decide_eq_true due)

/-! ## Strobes at a link (R80, R92) -/

/-- In every state but FAULTED the strobe is sent and nothing more happens (R80). -/
theorem State.strobeAt_sent {x : Head} {s : State} (n : BitVec 8) (state : (s.links.get x).state ≠ .faulted) :
    s.strobeAt x n = s.modifyLink x fun l => { l with downstream := l.downstream ++ [.strobe n] } := if_neg state

/-- In FAULTED the link charges itself a miss as well (R92). -/
theorem State.strobeAt_faulted {x : Head} {s : State} (n : BitVec 8) (state : (s.links.get x).state = .faulted) :
    s.strobeAt x n =
      (s.modifyLink x fun l =>
        { l with
          downstream := l.downstream ++ [.strobe n], missed := satInc l.missed,
          silence := l.silence + 1 }).checkSilence x := by
  rw [State.strobeAt, if_pos state, State.modifyLink_modifyLink]

theorem exec_strobeAtLink {x : Head} {n : BitVec 8} {rest : List (BitVec 8)} {s : State} (power : s.power = .running)
    (flying : s.arrivals.strobesToLink.get x = n :: rest) :
    exec (.strobeAtLink x) s =
      .next (({ s with
        arrivals := { s.arrivals with strobesToLink := s.arrivals.strobesToLink.set x rest } } : State).strobeAt x n) := by
  refine (whileRunning_running (strobeAtLink x) s power).trans (congrArg _ ?_)
  rw [strobeAtLink, flying]

/-- Settles O38: the strobe is sent, and in FAULTED the silence is counted up to its limit. -/
theorem aStrobeIsSentDownEachLink : Obligations.AStrobeIsSentDownEachLink := by
  rintro x n rest s l power rfl flying
  have run := exec_strobeAtLink power flying
  by_cases state : (s.links.get x).state = .faulted
  · rw [State.strobeAt_faulted n (by exact state)] at run
    by_cases few : (s.links.get x).silence < 63
    · rw [State.checkSilence_heard (by simp; omega)] at run
      have below : (s.links.get x).silence ≠ 63 := by omega
      exact ⟨_, run, by simp [state, below]⟩
    · rw [State.checkSilence_lost (by simp; omega), State.enterAbsent_eq] at run
      have entered (p : Port) : Cond.linkLost x ∈ (s.raise (.linkLost x)).cond.sets[p] := (s.mem_raise ..).2 (.inl rfl)
      exact ⟨_, run, by simpa [state, few, Link.resultAfter, Link.completionOf] using fun _ => entered⟩
  · rw [State.strobeAt_sent n (by exact state)] at run
    exact ⟨_, run, by simp [state]⟩

/-! ## HEAD_IDENT and HEAD_TEST (R96, R97) -/

section HostCommand

variable {x : Head} {kind : CommandKind} {p : Port} {tag : Byte} {s : State}

theorem hostCommand_notPresent (absent : (s.links.get x).state = .absent) :
    hostCommand x kind p tag s = answer s .notPresent := if_pos absent

variable (present : (s.links.get x).state ≠ .absent)
include present

theorem hostCommand_busy (busy : (s.links.get x).slot ≠ none) : hostCommand x kind p tag s = answer s .busy := by
  rw [hostCommand, if_neg present, if_pos busy]

theorem hostCommand_accepted (empty : (s.links.get x).slot = none) :
    hostCommand x kind p tag s = ⟨s.placeCommand x kind (.host p tag), .accepted, .head x⟩ := by
  rw [hostCommand, if_neg present, if_neg (not_not.2 empty)]

end HostCommand

/-- What either request does at its link. -/
def headCommand (kind : CommandKind) (p : Port) (tag head : Byte) : State → Answer :=
  match kind with
  | .identify => headIdent p tag head
  | .selfTest => headTest p tag head

section HeadCommand

variable {kind : CommandKind} {p : Port} {tag head : Byte} {x : Head} {s : State}

theorem headCommand_outOfRange (bad : headOf head = none) : headCommand kind p tag head s = answer s .outOfRange := by
  cases kind <;> simp only [headCommand, headIdent, headTest, bad]

variable (hx : headOf head = some x)
include hx

theorem headCommand_notHolder (test : kind = .selfTest) (other : s.cfg.holds p = false) :
    headCommand kind p tag head s = answer s .notHolder := by
  subst test
  simp only [headCommand, headTest, hx, other, Bool.false_eq_true, if_false]

/-- HEAD_TEST asks for the lease, and HEAD_IDENT does not (R97). -/
theorem headCommand_granted (holder : kind = .selfTest → s.cfg.holds p = true) :
    headCommand kind p tag head s = hostCommand x kind p tag s := by
  cases kind with
  | identify => simp only [headCommand, headIdent, hx]
  | selfTest => simp only [headCommand, headTest, hx, holder rfl, if_true]

end HeadCommand

/-- Settles O39: the checks in their order, and the command that passes them in the slot. -/
theorem headCommandsEnterAnEmptySlot : Obligations.HeadCommandsEnterAnEmptySlot := by
  intro r head s kind ready c identify selfTest
  have run : exec c s = requestEnd r kind.request (headCommand kind r.port r.tag head) s := by
    cases kind with
    | identify => rw [identify rfl]; rfl
    | selfTest => rw [selfTest rfl]; rfl
  rw [run]
  refine ⟨fun bad => requestEnd_reported ready (headCommand_outOfRange bad), fun good test other => ?_,
    fun x hx holder => ?_⟩
  · obtain ⟨x, hx⟩ := Option.ne_none_iff_exists'.1 good
    exact requestEnd_reported ready (headCommand_notHolder hx test (by rwa [State.served_cfg]))
  have granted := headCommand_granted (tag := r.tag) (s := s.served r kind.request) hx (by rwa [State.served_cfg])
  refine ⟨fun absent => requestEnd_reported ready ?_, fun present busy => requestEnd_reported ready ?_,
    fun present empty => ?_⟩
  · rw [granted, hostCommand_notPresent (by rwa [State.served_links])]
  · rw [granted, hostCommand_busy (by rwa [State.served_links]) (by rwa [State.served_links])]
  · rw [← s.served_links r kind.request] at present empty
    rw [requestEnd_answer ready (granted.trans (hostCommand_accepted present empty)) rfl, State.placeCommand, State.now,
      State.served_tb]

end Sys2Proof.Machine

/-! SUPPORT. Proofs about the history (spec/02): the requests of a port's reader, and what an append makes of the ring and its readers. -/

namespace Sys2Proof.Machine

-- One theorem at a time: the check gives every concurrent one a large stack of its own.
set_option Elab.async false

/-! ## Distances in the ring (R25) -/

/-- The distance of a number from one that stands so many before next, where the number stands no farther from next. -/
theorem toNat_sub_back {n next : PubNum} {held : Nat} (_ : held ≤ 1024) (near : (next - n).toNat ≤ held) :
    (n - (next - BitVec.ofNat 48 held)).toNat = held - (next - n).toNat := by bv_omega

theorem toNat_sub_back_le_iff {n next : PubNum} {held : Nat} (_ : held ≤ 1024) :
    (n - (next - BitVec.ofNat 48 held)).toNat ≤ held ↔ (next - n).toNat ≤ held := by bv_omega

/-- The number that stands `j` behind a cursor, counted back from next. -/
theorem sub_back_eq_add {next cursor : PubNum} {held j : Nat} (hj : j < (next - cursor).toNat)
    (near : (next - cursor).toNat ≤ held) (_ : held ≤ 1024) :
    next - BitVec.ofNat 48 (held - (held - (next - cursor).toNat + j)) = cursor + BitVec.ofNat 48 j := by bv_omega

/-- The records from a cursor onward, as many as are asked for and unread (R33). -/
theorem History.fromCursor_spec {h : History} {p : Port} {k : Nat} (ring : h.Consecutive)
    (near : (h.next - h.readers[p].cursor).toNat ≤ h.records.length)
    (unread : k ≤ (h.next - h.readers[p].cursor).toNat) :
    (h.fromCursor p k).length = k
      ∧ ∀ j : Fin (h.fromCursor p k).length,
          ((h.fromCursor p k)[j]).number = h.readers[p].cursor + BitVec.ofNat 48 j ∧ (h.fromCursor p k)[j] ∈ h.records := by
  obtain ⟨room, numbers⟩ := ring
  have offset : (h.readers[p].cursor - h.oldest).toNat = h.records.length - (h.next - h.readers[p].cursor).toNat :=
    toNat_sub_back room near
  have length : (h.fromCursor p k).length = k := by
    simp only [History.fromCursor, List.length_take, List.length_drop, offset]
    omega
  refine ⟨length, fun ⟨j, hj⟩ => ⟨?_, List.drop_subset _ _ (List.take_subset _ _ (List.getElem_mem _))⟩⟩
  have place : h.records.length - (h.next - h.readers[p].cursor).toNat + j < h.records.length := by omega
  have found : (h.fromCursor p k)[j] = h.records[h.records.length - (h.next - h.readers[p].cursor).toNat + j] := by
    simp only [History.fromCursor, List.getElem_take, List.getElem_drop, offset]
  calc ((h.fromCursor p k)[j]).number
    _ = (h.records[h.records.length - (h.next - h.readers[p].cursor).toNat + j]).number := congrArg _ found
    _ = _ := numbers ⟨_, place⟩
    _ = h.readers[p].cursor + BitVec.ofNat 48 j := sub_back_eq_add (by omega) near room

/-! ## Readers (R28, R31) -/

theorem Reader.evaluate_reached (o : Reader) (next : PubNum) :
    (o.evaluate next).reached = decide (o.watermark ≠ 0#16 ∧ o.watermark.toNat ≤ (next - o.cursor).toNat) := by
  simp [Reader.evaluate, Reader.reachedAt]

/-- The cursor state of a port whose reader has just been written (R32). -/
theorem State.modifyReader_cursorState (s : State) (p : Port) (r : Reader) :
    (s.modifyReader p fun _ => r).cursorState p = ⟨r.cursor, s.hist.next - r.cursor, r.watermark, r.skipTotal⟩ := by
  simp only [State.cursorState, History.unread, State.modifyReader_reader, if_true]
  rfl

theorem State.served_cursorState (s : State) (r : Req) (k : RequestKind) (p : Port) :
    (s.served r k).cursorState p = s.cursorState p := by
  simp only [State.cursorState, State.served_hist]

/-! ## The history requests (R32 to R37) -/

section Requests

variable {p : Port} {s : State}

theorem histRead_outOfRange {max : Byte} (bad : max = 0#8 ∨ 4 < max.toNat) :
    histRead p max s = answer s .outOfRange (.cursor (s.cursorState p)) := by
  refine if_pos (bad.imp_left ?_)
  rintro rfl
  decide

theorem histRead_delivers {max : Byte} {k : Nat} (least : 1 ≤ max.toNat) (most : max.toNat ≤ 4)
    (hk : k = min max.toNat (s.hist.unread p).toNat) :
    histRead p max s =
      ⟨s.modifyReader p fun _ =>
          ({ s.hist.readers[p] with
            cursor := s.hist.readers[p].cursor + BitVec.ofNat 48 k, skippedSinceRead := 0#16 } : Reader).evaluate
            s.hist.next,
        if k = 0 then .empty else .ok,
        .histRead (s.hist.fromCursor p k) s.hist.readers[p].skippedSinceRead
          ⟨s.hist.readers[p].cursor + BitVec.ofNat 48 k, s.hist.next - (s.hist.readers[p].cursor + BitVec.ofNat 48 k),
            s.hist.readers[p].watermark, s.hist.readers[p].skipTotal⟩⟩ := by
  subst hk
  rw [histRead, if_neg (by omega)]
  exact congrArg (Answer.mk _ _) (congrArg (Payload.histRead _ _) (s.modifyReader_cursorState p _))

theorem histPeek_empty (empty : s.hist.records = []) :
    histPeek p s = answer s .empty (.cursor (s.cursorState p)) := by
  simp only [histPeek, empty, List.getLast?_nil]

theorem histPeek_newest {newest : Publication} (last : s.hist.records.getLast? = some newest) :
    histPeek p s = answer s .ok (.histPeek (s.cursorState p) newest) := by
  simp only [histPeek, last]

theorem histSeek_refused {form : Byte} {n : PubNum}
    (refused : ((seekFormOf form).bind fun f => s.hist.seekTarget f n) = none) :
    histSeek p form n s = answer s .outOfRange (.cursor (s.cursorState p)) := by
  simp only [histSeek, refused]

theorem histSeek_target {form : Byte} {n target : PubNum}
    (found : ((seekFormOf form).bind fun f => s.hist.seekTarget f n) = some target) :
    histSeek p form n s =
      ⟨s.modifyReader p fun _ => ({ s.hist.readers[p] with cursor := target } : Reader).evaluate s.hist.next, .ok,
        .cursor ⟨target, s.hist.next - target, s.hist.readers[p].watermark, s.hist.readers[p].skipTotal⟩⟩ := by
  rw [histSeek, found]
  exact congrArg (Answer.mk _ _) (congrArg Payload.cursor (s.modifyReader_cursorState p _))

theorem histWatermark_outOfRange {value : BitVec 16} (bad : 1024 < value.toNat) :
    histWatermark p value s = answer s .outOfRange (.cursor (s.cursorState p)) := if_pos bad

theorem histWatermark_set {value : BitVec 16} (good : value.toNat ≤ 1024) :
    histWatermark p value s =
      ⟨s.modifyReader p fun _ => ({ s.hist.readers[p] with watermark := value } : Reader).evaluate s.hist.next, .ok,
        .cursor
          ⟨s.hist.readers[p].cursor, s.hist.next - s.hist.readers[p].cursor, value, s.hist.readers[p].skipTotal⟩⟩ := by
  have taken : ¬ Config.historyCapacity < value.toNat := not_lt.2 good
  rw [histWatermark, if_neg taken]
  exact congrArg (Answer.mk _ _) (congrArg Payload.cursor (s.modifyReader_cursorState p _))

end Requests

section Seek

variable {h : History} {form : Byte} {n : PubNum}

/-- Where each form of HIST_SEEK that is not refused sets the cursor (R36). -/
theorem History.seek_some {target : PubNum} (room : h.records.length ≤ 1024)
    (found : (form = 0#8 ∧ target = h.next - BitVec.ofNat 48 h.records.length)
      ∨ (form = 1#8 ∧ h.records ≠ [] ∧ target = h.next - 1) ∨ (form = 1#8 ∧ h.records = [] ∧ target = h.next)
      ∨ (form = 2#8 ∧ target = h.next) ∨ (form = 3#8 ∧ target = n ∧ (h.next - n).toNat ≤ h.records.length)) :
    ((seekFormOf form).bind fun f => h.seekTarget f n) = some target := by
  obtain ⟨rfl, rfl⟩ | ⟨rfl, held, rfl⟩ | ⟨rfl, empty, rfl⟩ | ⟨rfl, rfl⟩ | ⟨rfl, rfl, near⟩ := found
  · rfl
  · exact congrArg some (if_neg (by simpa using held))
  · exact congrArg some (if_pos (by simpa using empty))
  · rfl
  · exact if_pos ((toNat_sub_back_le_iff room).2 near)

/-- An unknown form, and a number outside the ring, are refused (R36). -/
theorem History.seek_none (room : h.records.length ≤ 1024)
    (refused : 3 < form.toNat ∨ (form = 3#8 ∧ h.records.length < (h.next - n).toNat)) :
    ((seekFormOf form).bind fun f => h.seekTarget f n) = none := by
  obtain unknown | ⟨rfl, far⟩ := refused
  · have other (m : Byte) (hm : m.toNat ≤ 3) : form ≠ m := by rintro rfl; omega
    simp [seekFormOf, other 0#8 (by decide), other 1#8 (by decide), other 2#8 (by decide), other 3#8 (by decide)]
  · exact if_neg (mt (toNat_sub_back_le_iff room).1 (not_le.2 far))

end Seek

/-- Settles O43: each request is read off its case in HIST, with the ring as the transaction leaves it. -/
theorem historyRequestsServeThePortsOwnReader : Obligations.HistoryRequestsServeThePortsOwnReader := by
  rintro r s q state ⟨ring, within, -⟩ rfl rfl
  have room : s.hist.records.length ≤ 1024 := ring.1
  obtain ⟨near, -⟩ := within r.port
  refine ⟨fun max ready => ⟨fun bad => ?_, fun k least most hk => ?_⟩, fun ready => ⟨fun empty => ?_, fun newest last => ?_⟩,
    fun form n ready => ⟨fun target found => ?_, fun refused => ?_⟩, fun value ready => ⟨fun bad => ?_, fun good => ?_⟩,
    fun o next => ⟨o.evaluate_reached next, rfl⟩⟩
  · refine requestEnd_reported (carry := histRead r.port max) ready ?_
    rw [histRead_outOfRange bad, State.served_cursorState]
    rfl
  · obtain ⟨length, delivered⟩ := History.fromCursor_spec ring near (k := k) (hk ▸ Nat.min_le_right ..)
    refine ⟨s.hist.fromCursor r.port k, length, delivered, ?_⟩
    refine requestEnd_answer (carry := histRead r.port max) ready ?_ rfl
    rw [histRead_delivers (k := k) least most (by rw [State.served_hist]; exact hk), State.served_hist]
  · refine requestEnd_reported (carry := histPeek r.port) ready ?_
    rw [histPeek_empty (by rwa [State.served_hist]), State.served_cursorState]
    rfl
  · refine requestEnd_reported (carry := histPeek r.port) ready ?_
    rw [histPeek_newest (by rwa [State.served_hist]), State.served_cursorState]
    rfl
  · refine requestEnd_answer (carry := histSeek r.port form n) ready ?_ rfl
    rw [histSeek_target (by rw [State.served_hist]; exact History.seek_some room found), State.served_hist]
  · refine requestEnd_reported (carry := histSeek r.port form n) ready ?_
    rw [histSeek_refused (by rw [State.served_hist]; exact History.seek_none room refused), State.served_cursorState]
    rfl
  · refine requestEnd_reported (carry := histWatermark r.port value) ready ?_
    rw [histWatermark_outOfRange bad, State.served_cursorState]
    rfl
  · refine requestEnd_answer (carry := histWatermark r.port value) ready ?_ rfl
    rw [histWatermark_set good, State.served_hist]

/-! ## Appends (R26, R29) -/

/-- From `s` to `t` each of the ports whose cursor names the dropped record is moved on and charged, and no other (R29). -/
structure State.Overran (dropped : PubNum) (ports : List Port) (s t : State) : Prop where
  frame : t = { s with hist := { s.hist with readers := t.hist.readers }, cond := t.cond }
  reader : ∀ n : Port, t.hist.readers[n] =
    if n ∈ ports ∧ s.hist.readers[n].cursor = dropped then s.hist.readers[n].overrun else s.hist.readers[n]
  set : ∀ n : Port, t.cond.sets[n] =
    if n ∈ ports ∧ s.hist.readers[n].cursor = dropped then insertCond .ringOverrun s.cond.sets[n] else s.cond.sets[n]
  overruns : (t.cond.counts[Cond.ringOverrun.index]).toNat =
    min ((s.cond.counts[Cond.ringOverrun.index]).toNat + ports.countP fun n => s.hist.readers[n].cursor = dropped) 65535
  counts : ∀ c : Cond, c ≠ .ringOverrun → t.cond.counts[c.index] = s.cond.counts[c.index]

theorem State.raisePort_set (s : State) (c : Cond) (p q : Port) :
    (s.raisePort c p).cond.sets[q] = if q = p then insertCond c s.cond.sets[p] else s.cond.sets[q] :=
  getElem_set_fin s.cond.sets p q _

theorem State.overrunPort_overran (dropped : PubNum) (p : Port) (s : State) :
    State.Overran dropped [p] s (s.overrunPort dropped p) := by
  unfold State.overrunPort
  split
  · next names =>
    have raised := (s.modifyReader p Reader.overrun).raisePort_counts .ringOverrun p
    have tested (n : Port) : (n ∈ [p] ∧ s.hist.readers[n].cursor = dropped) = (n = p) :=
      propext ⟨fun h => List.mem_singleton.1 h.1, fun h => ⟨List.mem_singleton.2 h, h ▸ names⟩⟩
    refine ⟨rfl, fun n => ?_, fun n => ?_, ?_, fun c other => ?_⟩
    · rw [State.raisePort_hist, State.modifyReader_reader, ite_cond_congr (tested n)]
      split
      · next e => rw [e]
      · rfl
    · rw [State.raisePort_set, ite_cond_congr (tested n)]
      split
      · next e => rw [e]; rfl
      · rfl
    · rw [raised, State.count_raise, if_pos rfl, toNat_satInc, List.countP_singleton, if_pos (decide_eq_true names)]
      rfl
    · rw [raised, State.count_raise, if_neg other]
      rfl
  · next other =>
    have untested (n : Port) : ¬(n ∈ [p] ∧ s.hist.readers[n].cursor = dropped) :=
      fun ⟨hn, names⟩ => other (List.mem_singleton.1 hn ▸ names)
    refine ⟨rfl, fun n => (if_neg (untested n)).symm, fun n => (if_neg (untested n)).symm, ?_, fun _ _ => rfl⟩
    rw [List.countP_singleton, if_neg (mt of_decide_eq_true other)]
    have bound := (s.cond.counts[Cond.ringOverrun.index]).isLt
    omega

/-- The tests of different ports do not meet. -/
theorem State.Overran.append {dropped : PubNum} {ps qs : List Port} {s t u : State} (h : State.Overran dropped ps s t)
    (g : State.Overran dropped qs t u) (apart : ∀ n ∈ ps, n ∉ qs) : State.Overran dropped (ps ++ qs) s u := by
  have untouched {n : Port} (hn : n ∉ ps) : t.hist.readers[n] = s.hist.readers[n] ∧ t.cond.sets[n] = s.cond.sets[n] := by
    rw [h.reader, h.set, if_neg fun e => hn e.1, if_neg fun e => hn e.1]
    exact ⟨rfl, rfl⟩
  refine ⟨?_, fun n => ?_, fun n => ?_, ?_, fun c other => (g.counts c other).trans (h.counts c other)⟩
  · rw [g.frame]
    simp only
    rw [h.frame]
  · by_cases hn : n ∈ ps
    · rw [g.reader, if_neg fun e => apart n hn e.1, h.reader]
      simp [hn]
    · rw [g.reader, (untouched hn).1]
      simp [hn]
  · by_cases hn : n ∈ ps
    · rw [g.set, if_neg fun e => apart n hn e.1, h.set]
      simp [hn]
    · rw [g.set, (untouched hn).1, (untouched hn).2]
      simp [hn]
  · have same : (qs.countP fun n => t.hist.readers[n].cursor = dropped) =
        qs.countP fun n => s.hist.readers[n].cursor = dropped :=
      List.countP_congr fun n hn => by rw [(untouched fun hp => apart n hp hn).1]
    rw [g.overruns, h.overruns, same, List.countP_append]
    omega

/-- All four ports are tested against the dropped record (R29). -/
theorem State.overran_all (dropped : PubNum) (s : State) :
    State.Overran dropped (List.finRange 4) s
      ((((s.overrunPort dropped 0).overrunPort dropped 1).overrunPort dropped 2).overrunPort dropped 3) :=
  (((s.overrunPort_overran dropped 0).append (State.overrunPort_overran dropped 1 _) (by decide)).append
    (State.overrunPort_overran dropped 2 _) (by decide)).append (State.overrunPort_overran dropped 3 _) (by decide)

/-- A table of the ports' readers, as a list, is the readers of the ports in order. -/
theorem readers_toList (v : Vector Reader 4) : v.toList = (List.finRange 4).map fun n => v[n] := by
  rw [← List.ofFn_eq_map]
  exact List.ext_getElem (by simp) fun i _ _ => by simp only [Vector.getElem_toList, List.getElem_ofFn]; rfl

/-- The hub when the oldest record of the ring has left it for DELTA, and no reader has been tested yet (R26). -/
def State.oldestTaken (s : State) : State :=
  { s with
    hist := { s.hist with records := s.hist.records.tail },
    arrivals := { s.arrivals with drops := s.arrivals.drops ++ [s.hist.oldest] } }

theorem State.dropOldest_overran (s : State) :
    State.Overran s.hist.oldest (List.finRange 4) s.oldestTaken s.dropOldest := State.overran_all _ _

theorem exec_append {s : State} {p : Publication} {rest : List Publication} (power : s.power = .running)
    (flying : s.arrivals.appends = p :: rest) :
    exec .append s = .next (({ s with arrivals := { s.arrivals with appends := rest } } : State).appendRecord p) := by
  refine (whileRunning_running appendArrival s power).trans (congrArg _ ?_)
  rw [appendArrival, flying]

theorem State.appendRecord_room {s : State} (p : Publication) (room : s.hist.records.length < 1024) :
    s.appendRecord p = s.placeRecord p := by
  have notFull : ¬ Config.historyCapacity ≤ s.hist.records.length := not_le.2 room
  rw [State.appendRecord, if_neg notFull]

theorem State.appendRecord_full {s : State} (p : Publication) (full : 1024 ≤ s.hist.records.length) :
    s.appendRecord p = s.dropOldest.placeRecord p := by
  have noRoom : Config.historyCapacity ≤ s.hist.records.length := full
  rw [State.appendRecord, if_pos noRoom]

/-- Every reader of an append is evaluated against the new next (R31). -/
theorem State.placeRecord_reader (s : State) (p : Publication) (n : Port) :
    (s.placeRecord p).hist.readers[n] = s.hist.readers[n].evaluate (s.hist.next + 1) := by
  simp [State.placeRecord]

/-- Settles O44: with room the record is placed; on a full ring the oldest is dropped first, which `State.Overran`
describes. -/
theorem anAppendPlacesOneRecordAndDropsTheOldestOfAFullRing :
    Obligations.AnAppendPlacesOneRecordAndDropsTheOldestOfAFullRing := by
  refine fun p rest s power flying => ⟨fun room => ?_, fun oldest full first => ?_⟩
  · rw [exec_append power flying, State.appendRecord_room p (by exact room)]
    rfl
  have oldest_eq : s.hist.oldest = oldest := by rw [History.oldest, full, first]
  obtain ⟨u, hu⟩ : ∃ u : State, u = { s with arrivals := { s.arrivals with appends := rest } } := ⟨_, rfl⟩
  have run : exec .append s = .next (u.dropOldest.placeRecord p) := by
    rw [exec_append power flying, ← hu, State.appendRecord_full p (by rw [hu]; exact full.ge)]
  have overran := u.dropOldest_overran
  have hist : u.hist = s.hist := by rw [hu]
  have cond : u.oldestTaken.cond = s.cond := by rw [hu]; rfl
  have readers : u.oldestTaken.hist.readers = s.hist.readers := by rw [hu]; rfl
  obtain ⟨frame, reader, set, overruns, counts⟩ := overran
  simp only [List.mem_finRange, true_and, readers, cond, hist, oldest_eq] at reader set overruns counts
  obtain ⟨records, next⟩ := u.dropOldest_ring
  rw [hist] at records next
  refine ⟨_, run, ?_, ?_, fun n q hq => ?_, ?_, fun c other => ?_, ?_, ?_⟩
  · rw [State.placeRecord, records]
  · rw [State.placeRecord, next]
  · subst hq
    rw [State.placeRecord_reader, State.placeRecord_cond, next, reader, set]
    refine ⟨fun names => ?_, fun other => ?_⟩
    · rw [if_pos names, if_pos names]
      exact ⟨by rw [Reader.overrun, names], fun c => insertCond_mem ..⟩
    · rw [if_neg other, if_neg other]
      exact ⟨rfl, rfl⟩
  · rw [State.placeRecord_cond, overruns, readers_toList, List.countP_map]
    rfl
  · rw [State.placeRecord_cond, counts c other]
  · rw [State.placeRecord_arrivals, frame, State.oldestTaken, hu]
    simp only [oldest_eq]
  · rw [State.placeRecord, frame, State.oldestTaken, hu]

end Sys2Proof.Machine

/-! SUPPORT. Proofs about what every step keeps of the ring with its readers, and of each head link. -/

namespace Sys2Proof.Machine

-- One theorem at a time: the check gives every concurrent one a large stack of its own.
set_option Elab.async false

/-! ## Links in form (R86) -/

/-- The part of a link's consistency in which its slot has no say. -/
def Link.Counted (l : Link) : Prop :=
  l.tally < 64 ∧ l.goodCount ≤ 16 ∧ l.silence < 64 ∧ (l.state ≠ .up → l.tally = 0)
    ∧ (l.state ≠ .syncing → l.goodCount = 0 ∧ l.confirmed = false)
    ∧ ¬(l.state = .syncing ∧ l.goodCount = 16 ∧ l.confirmed = true)

theorem Link.consistent_iff (l : Link) :
    l.Consistent ↔ l.Counted ∧ (l.state = .syncing → l.confirmed = false → l.slot ≠ none) :=
  ⟨fun ⟨tally, good, silence, rest, unsynced, slot, running⟩ => ⟨⟨tally, good, silence, rest, unsynced, running⟩, slot⟩,
    fun ⟨⟨tally, good, silence, rest, unsynced, running⟩, slot⟩ => ⟨tally, good, silence, rest, unsynced, slot, running⟩⟩

namespace Link.Counted

variable {l : Link}

/-- A slot filled where R88 asks for it makes a link of good counts consistent. -/
theorem identifying (h : l.Counted) (now : Micros) : (l.identifying now).Consistent := by
  rw [Link.consistent_iff]
  unfold Link.identifying
  split
  · exact ⟨h, fun _ _ => nofun⟩
  · next filled => exact ⟨h, fun state unconfirmed empty => filled ⟨state, unconfirmed, empty⟩⟩

/-- Outside SYNCING the slot has no say (R88). -/
theorem consistent (h : l.Counted) (state : l.state ≠ .syncing) : l.Consistent :=
  (Link.consistent_iff l).2 ⟨h, fun syncing => absurd syncing state⟩

theorem syncing (l : Link) : l.syncing.Counted :=
  ⟨Nat.succ_pos 63, show 1 ≤ 16 by decide, Nat.succ_pos 63, fun _ => rfl, fun other => absurd rfl other,
    fun ⟨_, full, _⟩ => nomatch full⟩

/-- A SYNCING link whose counts are in range, once it has gone UP if it may (R87). -/
theorem tryUp (state : l.state = .syncing) (tally : l.tally = 0) (good : l.goodCount ≤ 16) (silence : l.silence < 64) :
    l.tryUp.Counted := by
  unfold Link.tryUp
  split
  · exact ⟨Nat.succ_pos 63, Nat.zero_le _, silence, fun other => absurd rfl other, fun _ => ⟨rfl, rfl⟩,
      fun ⟨up, _⟩ => nomatch up⟩
  · next unfinished =>
    exact ⟨by omega, good, silence, fun _ => tally, fun other => absurd state other, unfinished⟩

/-- FAULTED is entered from UP (R89). -/
theorem faulted {slot : Option Command} {result : Option CommandResult} (h : l.Counted) (state : l.state = .up) :
    ({ l with state := .faulted, tally := 0, silence := 0, slot := slot, lastResult := result } : Link).Counted := by
  obtain ⟨-, good, -, -, unsynced, -⟩ := h
  exact ⟨Nat.succ_pos 63, good, Nat.succ_pos 63, fun _ => rfl, fun _ => unsynced (by simp [state]),
    fun ⟨other, _⟩ => nomatch other⟩

theorem absent {slot : Option Command} {result : Option CommandResult} (l : Link) :
    ({ l with
      state := .absent, tally := 0, goodCount := 0, confirmed := false, silence := 0, slot := slot,
      lastResult := result } : Link).Counted :=
  ⟨Nat.succ_pos 63, Nat.zero_le _, Nat.succ_pos 63, fun _ => rfl, fun _ => ⟨rfl, rfl⟩, fun ⟨other, _⟩ => nomatch other⟩

/-- FOREIGN is entered from SYNCING (R88). -/
theorem foreign (h : l.Counted) (state : l.state = .syncing) :
    ({ l with state := .foreign, goodCount := 0, confirmed := false } : Link).Counted := by
  obtain ⟨tally, -, silence, rest, -⟩ := h
  exact ⟨tally, Nat.zero_le _, silence, fun _ => rest (by simp [state]), fun _ => ⟨rfl, rfl⟩, fun ⟨other, _⟩ => nomatch other⟩

/-- An error that ends the run of good frames, or only counts as silence (R87, R91). -/
theorem quiet {n : Nat} (h : l.Counted) (below : n < 64) : ({ l with silence := n } : Link).Counted := by
  obtain ⟨tally, good, -, rest⟩ := h
  exact ⟨tally, good, below, rest⟩

theorem runEnded (h : l.Counted) : ({ l with goodCount := 0 } : Link).Counted := by
  obtain ⟨tally, -, silence, rest, unsynced, -⟩ := h
  exact ⟨tally, Nat.zero_le _, silence, rest, fun other => ⟨rfl, (unsynced other).2⟩, fun ⟨_, full, _⟩ => nomatch full⟩

theorem charged {n : Nat} (h : l.Counted) (state : l.state = .up) (below : n < 64) :
    ({ l with tally := n } : Link).Counted := by
  obtain ⟨-, good, silence, -, rest⟩ := h
  exact ⟨below, good, silence, fun other => absurd state other, rest⟩

theorem counted {e : LinkError} (h : l.Counted) : (l.countError e).Counted := by
  cases e <;> exact h

/-- An accepted SAMPLE keeps the counts of its link (R87, R90, R91, R93). -/
theorem moved (h : l.Counted) (status : Byte) : (l.moved status).Counted := by
  unfold Link.moved
  split
  · exact syncing _
  · split
    · exact syncing _
    · exact syncing _
    · next state =>
      obtain ⟨-, -, -, rest, -⟩ := h
      exact tryUp state (rest (by simp [state])) (Nat.min_le_right ..) (Nat.succ_pos 63)
    · next state =>
      have below : l.tally - 1 < 64 := by obtain ⟨tally, -⟩ := h; omega
      exact (h.quiet (Nat.succ_pos 63)).charged state below
    · exact h.quiet (Nat.succ_pos 63)

end Link.Counted

/-! ## Operations that leave the links and the ring alone -/

/-- From `s` to `t` the links, the ring with its readers, the publication counter and the publications on their way to HIST
stand. -/
@[simp] abbrev State.SameForm (s t : State) : Prop :=
  t.links = s.links ∧ t.hist = s.hist ∧ t.sel.counter = s.sel.counter ∧ t.arrivals.appends = s.arrivals.appends

theorem State.SameForm.trans {s t u : State} (h : s.SameForm t) (g : t.SameForm u) : s.SameForm u := by
  obtain ⟨links, hist, counter, appends⟩ := h
  obtain ⟨links', hist', counter', appends'⟩ := g
  exact ⟨links'.trans links, hist'.trans hist, counter'.trans counter, appends'.trans appends⟩

section Appends

variable (s : State)

@[simp] theorem State.issueStrobe_appends (time : Micros) (fallback : Bool) (tag : Option SyncTag) :
    (s.issueStrobe time fallback tag).arrivals.appends = s.arrivals.appends := rfl

@[simp] theorem State.startInterval_appends (origin : Micros) (count : BitVec 16) (m : Nat) :
    (s.startInterval origin count m).arrivals.appends = s.arrivals.appends := by
  fun_cases State.startInterval <;> rfl

@[simp] theorem State.putEntry_appends (n : CtxNum) (e : Entry) :
    (s.putEntry n e).arrivals.appends = s.arrivals.appends := by
  cases e <;> rfl

@[simp] theorem State.reportCommit_appends (c : Commit) (result : Result) :
    (s.reportCommit c result).arrivals.appends = s.arrivals.appends := by
  fun_cases State.reportCommit <;> rfl

@[simp] theorem State.endLease_appends : s.endLease.arrivals.appends = s.arrivals.appends := by
  cases waiting : s.cfg.waiters with
  | nil => rw [s.endLease_free waiting]
  | cons w rest => rw [s.endLease_waiter w rest waiting]; rfl

end Appends

section Frame

variable (s : State) (p : Port)

/-! ### Transactions and ports -/

theorem State.endTransaction_sameForm {n : Nat} {take : Bool → State → State}
    (h : ∀ early u, State.SameForm u (take early u)) : s.SameForm (s.endTransaction p n take) := by
  fun_cases State.endTransaction
  · simp
  · exact .trans (by simp) (h _ _)

theorem chipSelectFall_sameForm (sooner : Bool) : s.SameForm (chipSelectFall p sooner s) := by
  fun_cases chipSelectFall <;> simp

theorem takeMalformed_sameForm (bytes : List Byte) (found : Received) (early : Bool) :
    s.SameForm (takeMalformed p bytes found early s) := by
  fun_cases takeMalformed <;> simp

theorem completionArrival_sameForm (index : Nat) : s.SameForm (completionArrival index s) := by
  fun_cases completionArrival <;> simp

theorem setAttention_sameForm (mask : Byte) : s.SameForm (setAttention p mask s).state := by
  fun_cases setAttention <;> simp

/-! ### Conditions and delta contexts -/

theorem levelArrival_sameForm : s.SameForm (levelArrival s) := by
  fun_cases levelArrival
  · simp
  · have raised (cs : List Cond) (u : State) : u.SameForm (u.raiseAll cs) := by
      rw [State.raiseAll_eq]
      exact ⟨rfl, rfl, rfl, rfl⟩
    exact .trans ⟨rfl, rfl, rfl, rfl⟩ (raised _ _)

theorem deltaArrival_sameForm : s.SameForm (deltaArrival s) := by
  fun_cases deltaArrival
  · simp
  · simp only [State.liveAt_eq]
    obtain ⟨_, run, -⟩ := State.foldl_entryAt _ _ ctxNumbers (by decide) _
    rw [run]
    exact ⟨rfl, rfl, rfl, rfl⟩

theorem dropArrival_sameForm : s.SameForm (dropArrival s) := by
  fun_cases dropArrival
  · simp
  · simp only [State.dropAt_eq]
    obtain ⟨_, run, -⟩ := State.foldl_entryAt _ _ ctxNumbers (by decide) _
    rw [run]
    exact ⟨rfl, rfl, rfl, rfl⟩

theorem State.finishWalk_sameForm (n : CtxNum) (e : Entry) : s.SameForm (s.finishWalk n e) := by
  fun_cases State.finishWalk <;> simp

theorem walkStep_sameForm (n : CtxNum) : s.SameForm (walkStep n s) := by
  fun_cases walkStep
  · simp
  · exact s.finishWalk_sameForm ..
  · exact s.finishWalk_sameForm ..
  · simp

theorem deltaOpen_sameForm (tag : Byte) (label period : BitVec 16) (form : Byte) (n : PubNum) :
    s.SameForm (deltaOpen p tag label period form n s).state := by
  fun_cases deltaOpen <;> simp

theorem deltaTake_sameForm (ctx : Byte) : s.SameForm (deltaTake p ctx s).state := by
  fun_cases deltaTake <;> simp

theorem deltaCollect_sameForm (ctx : Byte) : s.SameForm (deltaCollect p ctx s).state := by
  fun_cases deltaCollect <;> simp

theorem deltaClose_sameForm (ctx discard : Byte) : s.SameForm (deltaClose p ctx discard s).state := by
  fun_cases deltaClose <;> simp

theorem deltaStatus_sameForm (ctx : Byte) : s.SameForm (deltaStatus p ctx s).state := by
  fun_cases deltaStatus <;> simp

/-! ### The lease, the staged image and the calibration store -/

theorem leaseAcquire_sameForm (tag wait : Byte) (period : BitVec 16) :
    s.SameForm (leaseAcquire p tag wait period s).state := by
  fun_cases leaseAcquire <;> simp

theorem leaseRelease_sameForm : s.SameForm (leaseRelease p s).state := by
  fun_cases leaseRelease <;> simp

theorem leaseExpiry_sameForm : s.SameForm (leaseExpiry s) := by
  fun_cases leaseExpiry <;> simp

/-- A staging request leaves the links and the ring alone when its holder's part does. -/
theorem asHolder_sameForm {f : Lease → Answer} (h : ∀ l, s.SameForm (f l).state) : s.SameForm (asHolder p s f).state := by
  fun_cases asHolder
  · simp
  · exact h _
  · simp

theorem State.stage_sameForm (l : Lease) (image : Image) : s.SameForm (s.stage l image).state := ⟨rfl, rfl, rfl, rfl⟩

theorem badField_sameForm (index : Nat) : s.SameForm (badField s index).state := ⟨rfl, rfl, rfl, rfl⟩

theorem stageCal_sameForm (head group : Byte) (values : Mat3 (BitVec 32)) :
    s.SameForm (stageCal p head group values s).state := by
  refine asHolder_sameForm s p fun l => ?_
  split
  · exact badField_sameForm ..
  · exact badField_sameForm ..
  · split
    · exact badField_sameForm ..
    · exact s.stage_sameForm ..

theorem stageSource_sameForm (mode : Byte) (holdOff : BitVec 16) :
    s.SameForm (stageSource p mode holdOff s).state := by
  refine asHolder_sameForm s p fun l => ?_
  split
  · exact badField_sameForm ..
  · exact s.stage_sameForm ..

theorem stageThresholds_sameForm (gyro accel : BitVec 32) : s.SameForm (stageThresholds p gyro accel s).state := by
  refine asHolder_sameForm s p fun l => ?_
  split
  · exact badField_sameForm ..
  · split
    · exact badField_sameForm ..
    · exact s.stage_sameForm ..

theorem stageTiming_sameForm (rate : BitVec 16) (mode : Byte) (scale : BitVec 16) :
    s.SameForm (stageTiming p rate mode scale s).state := by
  refine asHolder_sameForm s p fun l => ?_
  split
  · exact badField_sameForm ..
  · exact badField_sameForm ..
  · exact s.stage_sameForm ..

theorem stageRead_sameForm : s.SameForm (stageRead p s).state := asHolder_sameForm s p fun _ => ⟨rfl, rfl, rfl, rfl⟩

theorem stageDiscard_sameForm : s.SameForm (stageDiscard p s).state := asHolder_sameForm s p fun l => s.stage_sameForm l _

theorem activate_sameForm : s.SameForm (activate p s).state := by
  refine asHolder_sameForm s p fun l => ?_
  split <;> exact ⟨rfl, rfl, rfl, rfl⟩

theorem calRead_sameForm (head form : Byte) : s.SameForm (calRead p head form s).state := by
  fun_cases calRead <;> simp

theorem storeCommit_sameForm (tag : Byte) : s.SameForm (storeCommit p tag s).state := by
  fun_cases storeCommit <;> simp

theorem erasingEnd_sameForm : s.SameForm (erasingEnd s) := by
  fun_cases erasingEnd <;> simp

theorem writingEnd_sameForm (outcome : MediumOutcome) : s.SameForm (writingEnd outcome s) := by
  fun_cases writingEnd <;> simp

theorem verifyingEnd_sameForm : s.SameForm (verifyingEnd s) := by
  fun_cases verifyingEnd <;> simp [State.commitDone, State.commitFailed]

/-! ### The time base -/

theorem State.lockAt_sameForm (ref : LockRef) : s.SameForm (s.lockAt ref) := by simp [State.lockAt]

theorem rejectPulse_sameForm : s.SameForm (rejectPulse s) := by simp [rejectPulse]

theorem acquirePulse_sameForm : s.SameForm (acquirePulse s) := by
  fun_cases acquirePulse <;> simp +zetaDelta [State.lockAt]

theorem lockedPulse_sameForm (ref : LockRef) : s.SameForm (lockedPulse ref s) := by
  fun_cases lockedPulse
  · exact .trans (by simp) (rejectPulse_sameForm _)
  · exact s.lockAt_sameForm _
  · exact rejectPulse_sameForm s

theorem holdoverPulse_sameForm (ref : LockRef) : s.SameForm (holdoverPulse ref s) := by
  fun_cases holdoverPulse
  · exact s.lockAt_sameForm _
  · exact rejectPulse_sameForm s

theorem syncPulse_sameForm : s.SameForm (syncPulse s) := by
  unfold syncPulse
  split
  · split
    · simp
    · exact acquirePulse_sameForm s
    · exact lockedPulse_sameForm s _
    · exact holdoverPulse_sameForm s _
    · simp
    · simp
  · simp

theorem freeStrobe_sameForm : s.SameForm (freeStrobe s) := by
  fun_cases freeStrobe <;> simp

theorem syncEdge_sameForm : s.SameForm (syncEdge s) := by
  fun_cases syncEdge <;> simp +zetaDelta

theorem fallbackCheck_sameForm : s.SameForm (fallbackCheck s) := by
  fun_cases fallbackCheck <;> simp +zetaDelta

theorem scheduledStrobe_sameForm : s.SameForm (scheduledStrobe s) := by
  fun_cases scheduledStrobe <;> simp +zetaDelta

theorem virtualOrigin_sameForm : s.SameForm (virtualOrigin s) := by
  fun_cases virtualOrigin <;> simp

theorem holdoverDeadline_sameForm : s.SameForm (holdoverDeadline s) := by
  fun_cases holdoverDeadline <;> simp

theorem holdoverEnd_sameForm : s.SameForm (holdoverEnd s) := by
  fun_cases holdoverEnd <;> simp

theorem State.changeTiming_sameForm (g : Timing) : s.SameForm (s.changeTiming g) := by
  by_cases same : s.tb.timing = some g
  · simp [s.changeTiming_same g same]
  · rw [s.changeTiming_other g same]
    obtain e | ⟨-, -, e⟩ | ⟨-, -, e⟩ := State.issueOverdue_cases { s with tb := s.tb.retime g }
    · rw [e]; exact ⟨rfl, rfl, rfl, rfl⟩
    · rw [e]; exact freeStrobe_sameForm _
    · rw [e]; exact fallbackCheck_sameForm _

theorem timingArrival_sameForm : s.SameForm (timingArrival s) := by
  fun_cases timingArrival
  · simp
  · exact .trans (by simp) (State.changeTiming_sameForm _ _)

/-- Strobing starts, and a load ends, with no publication and no frame (R105, R145). -/
theorem startUpLoad_sameForm : s.SameForm (startUpLoad s) := by
  have started (u : State) (timing : Timing) : u.SameForm (u.startStrobing timing) := by
    fun_cases State.startStrobing <;> simp +zetaDelta
  fun_cases startUpLoad
  · exact .trans (by simp [State.raiseLoadConditions]) (started _ _)
  · simp

end Frame

/-! ## The ring and the publications on their way to it (R25, R26, R48) -/

/-- A list of publications numbered from `first` on. -/
def NumberedFrom (first : PubNum) (l : List Publication) : Prop :=
  ∀ k : Fin l.length, (l[k]).number = first + BitVec.ofNat 48 k

theorem NumberedFrom.cons {first : PubNum} {p : Publication} {rest : List Publication}
    (h : NumberedFrom first (p :: rest)) : p.number = first ∧ NumberedFrom (first + 1) rest := by
  refine ⟨(h ⟨0, Nat.succ_pos _⟩).trans (BitVec.add_zero first), fun k => (h ⟨k + 1, Nat.succ_lt_succ k.isLt⟩).trans ?_⟩
  simp only [BitVec.ofNat_add]
  bv_omega

theorem NumberedFrom.snoc {first : PubNum} {p : Publication} {l : List Publication} (h : NumberedFrom first l)
    (hp : p.number = first + BitVec.ofNat 48 l.length) : NumberedFrom first (l ++ [p]) := by
  rintro ⟨k, hk⟩
  rw [List.length_append, List.length_singleton] at hk
  simp only [Fin.getElem_fin, List.getElem_append]
  split
  · next within => exact h ⟨k, within⟩
  · next last =>
    have : k = l.length := by omega
    simp [this, hp]

theorem State.ringConsistent_iff (s : State) :
    s.RingConsistent ↔
      s.hist.Consecutive ∧ (∀ n : Port, (s.hist.readers[n]).Within s.hist)
        ∧ NumberedFrom s.hist.next s.arrivals.appends
        ∧ s.sel.counter = s.hist.next + BitVec.ofNat 48 s.arrivals.appends.length := Iff.rfl

/-- A close of a window keeps the publications in order: its own has the next number (R48). -/
theorem State.RingConsistent.published {s : State} {p : Publication} {sel : Selector} {misses : Pair Nat}
    {atDelta : List Publication} {atCond : List LevelReport} {cond : Conditions} (h : s.RingConsistent)
    (number : p.number = s.sel.counter) (counter : sel.counter = s.sel.counter + 1) :
    ({ s with
        sel := sel, cond := cond,
        arrivals :=
          { s.arrivals with
            misses := misses, appends := s.arrivals.appends ++ [p], atDelta := atDelta,
            atCond := atCond } } : State).RingConsistent := by
  obtain ⟨ring, within, flying, next⟩ := (ringConsistent_iff s).1 h
  refine (ringConsistent_iff _).2 ⟨ring, within, flying.snoc (number.trans next), ?_⟩
  simp only [counter, next, List.length_append, List.length_singleton, BitVec.ofNat_add]
  bv_omega

/-- A reader written so that it stands within the ring. -/
theorem State.RingConsistent.modifyReader {s : State} {p : Port} {f : Reader → Reader} (h : s.RingConsistent)
    (hf : (f s.hist.readers[p]).Within s.hist) : (s.modifyReader p f).RingConsistent := by
  obtain ⟨ring, within, flying, next⟩ := h
  refine ⟨ring, fun n => ?_, flying, next⟩
  rw [State.modifyReader_reader]
  split
  · exact hf
  · exact within n

/-- A reader near enough to a new next, evaluated there, is as R28 and R31 ask. -/
theorem Reader.evaluate_within {r : Reader} {h : History} {next : PubNum} (hn : h.next = next)
    (near : (next - r.cursor).toNat ≤ h.records.length) (watermark : r.watermark.toNat ≤ 1024) :
    (r.evaluate next).Within h := by
  subst hn
  exact ⟨near, watermark, rfl⟩

/-- A reader that the drop of the oldest of 1024 records has reached is moved on, and so none is left behind the ring (R29). -/
theorem Reader.afterDrop {r : Reader} {next : PubNum} (near : (next - r.cursor).toNat ≤ 1024) :
    (next + 1 - (if r.cursor = next - 1024#48 then r.overrun else r).cursor).toNat ≤ 1024 := by
  split
  · change (next + 1 - (r.cursor + 1)).toNat ≤ 1024
    bv_omega
  · bv_omega

/-- After an append every reader stands within the ring (R28, R29). -/
theorem State.appendRecord_within {s : State} {n : Port} (p : Publication) (room : s.hist.records.length ≤ 1024)
    (within : (s.hist.readers[n]).Within s.hist) :
    ((s.appendRecord p).hist.readers[n]).Within (s.appendRecord p).hist := by
  obtain ⟨near, watermark, -⟩ := within
  by_cases full : 1024 ≤ s.hist.records.length
  · have held : s.hist.records.length = 1024 := le_antisymm room full
    obtain ⟨records, next⟩ := s.dropOldest_ring
    have reader := s.dropOldest_overran.reader n
    rw [History.oldest, held] at reader
    have length : (s.dropOldest.placeRecord p).hist.records.length = 1024 := by
      simp only [State.placeRecord, records, List.length_append, List.length_tail, List.length_singleton, held]
    have newNext : (s.dropOldest.placeRecord p).hist.next = s.hist.next + 1 := by
      rw [State.placeRecord, next]
    rw [State.appendRecord_full p full, State.placeRecord_reader, reader, next]
    refine Reader.evaluate_within newNext ?_ ?_
    · rw [length]
      simpa [State.oldestTaken] using Reader.afterDrop (held ▸ near)
    · split <;> exact watermark
  · rw [State.appendRecord_room p (not_le.1 full), State.placeRecord_reader]
    refine Reader.evaluate_within rfl ?_ watermark
    simp only [State.placeRecord, List.length_append, List.length_singleton]
    bv_omega

/-- An append leaves SEL and the other publications on their way, and next moves on by one (R26). -/
theorem State.appendRecord_frame (s : State) (p : Publication) :
    (s.appendRecord p).hist.next = s.hist.next + 1 ∧ (s.appendRecord p).links = s.links
      ∧ (s.appendRecord p).sel = s.sel ∧ (s.appendRecord p).arrivals.appends = s.arrivals.appends := by
  by_cases full : 1024 ≤ s.hist.records.length
  · rw [State.appendRecord_full p full, State.placeRecord_links, State.placeRecord_sel, State.placeRecord_arrivals,
      s.dropOldest_overran.frame]
    exact ⟨rfl, rfl, rfl, rfl⟩
  · rw [State.appendRecord_room p (not_le.1 full)]
    exact ⟨rfl, rfl, rfl, rfl⟩

/-- The oldest publication on its way enters the ring, and the ring and its readers stay in form (R26, R28). -/
theorem State.RingConsistent.appended {s : State} {p : Publication} {rest : List Publication} (h : s.RingConsistent)
    (flying : s.arrivals.appends = p :: rest) :
    (({ s with arrivals := { s.arrivals with appends := rest } } : State).appendRecord p).RingConsistent := by
  obtain ⟨ring, within, numbered, counter⟩ := (ringConsistent_iff s).1 h
  obtain ⟨u, hu⟩ : ∃ u : State, u = { s with arrivals := { s.arrivals with appends := rest } } := ⟨_, rfl⟩
  have hist : u.hist = s.hist := by rw [hu]
  have sel : u.sel = s.sel := by rw [hu]
  have left : u.arrivals.appends = rest := by rw [hu]
  rw [flying] at numbered counter
  obtain ⟨first, numbered⟩ := numbered.cons
  obtain ⟨next, -, selSame, appends⟩ := u.appendRecord_frame p
  rw [← hu]
  refine (ringConsistent_iff _).2
    ⟨u.appendRecord_consecutive p (hist ▸ ring) (first.trans (by rw [hist])), fun n => ?_, ?_, ?_⟩
  · exact State.appendRecord_within p (hist ▸ ring.1) (hist ▸ within n)
  · rw [next, hist, appends, left]
    exact numbered
  · rw [selSame, sel, counter, next, hist, appends, left, List.length_cons, BitVec.ofNat_add]
    bv_omega

/-! ## What every step keeps of the links and the ring -/

/-- From `s` to `t` each consistent link stays consistent, and so do the ring and its readers. -/
structure State.FormKept (s t : State) : Prop where
  ring : s.RingConsistent → t.RingConsistent
  link : ∀ x : Head, (s.links.get x).Consistent → (t.links.get x).Consistent

/-- From `s` to `t` one link is written, with counts in their ranges if they were, and beside it conditions and completions
alone. -/
def State.CountsLink (x : Head) (s t : State) : Prop :=
  ∃ link cond completions,
    t = { s with
        links := s.links.set x link, cond := cond, arrivals := { s.arrivals with completions := completions } }
      ∧ ((s.links.get x).Counted → link.Counted)

namespace State.CountsLink

variable {x : Head} {s : State}

/-- A command that ends leaves the counts (R99). -/
theorem endCommand (x : Head) (result : Result) (detail : CommandDetail) (s : State) :
    s.CountsLink x (s.endCommand x result detail) := ⟨_, _, _, s.endCommand_eq x result detail, id⟩

/-- An error moves the counts of its link within their ranges, or the link goes to FAULTED or ABSENT (R87, R89, R91). -/
theorem linkError (x : Head) (e : LinkError) (s : State) : s.CountsLink x (s.linkError x e) := by
  obtain ⟨quiet, hq⟩ : ∃ quiet, quiet = (s.links.get x).silence + if e = .missed then 1 else 0 := ⟨_, rfl⟩
  cases state : (s.links.get x).state with
  | absent => exact ⟨_, _, _, State.linkError_counted rfl (.inl state), Link.Counted.counted⟩
  | faulted => exact ⟨_, _, _, State.linkError_counted rfl (.inr state), Link.Counted.counted⟩
  | syncing =>
    by_cases heard : quiet < 64
    · have charge := State.linkError_syncing rfl hq state
      rw [State.checkSilence_heard (by simpa using heard)] at charge
      exact ⟨_, _, _, charge, fun h => h.counted.runEnded.quiet heard⟩
    · exact ⟨_, _, _, State.linkError_loses rfl hq (.inl state) (not_lt.1 heard), fun _ => .absent _⟩
  | foreign =>
    by_cases heard : quiet < 64
    · have charge := State.linkError_foreign rfl hq state
      rw [State.checkSilence_heard (by simpa using heard)] at charge
      exact ⟨_, _, _, charge, fun h => h.counted.quiet heard⟩
    · exact ⟨_, _, _, State.linkError_loses rfl hq (.inr (.inl state)) (not_lt.1 heard), fun _ => .absent _⟩
  | up =>
    have up : ((s.links.get x).countError e).state = .up := by cases e <;> exact state
    by_cases few : (s.links.get x).tally + e.weight < 64
    · by_cases heard : quiet < 64
      · have charge := State.linkError_up rfl hq state
        rw [if_neg few.not_ge, State.checkSilence_heard (by simpa using heard)] at charge
        exact ⟨_, _, _, charge, fun h => (h.counted.charged up few).quiet heard⟩
      · exact ⟨_, _, _, State.linkError_loses rfl hq (.inr (.inr ⟨state, few⟩)) (not_lt.1 heard), fun _ => .absent _⟩
    · exact ⟨_, _, _, State.linkError_faults rfl hq state (not_lt.1 few), fun h => h.counted.faulted up⟩

/-- A RESPONSE ends its command, and in SYNCING an IDENTIFY confirms the head or finds it foreign (R87, R88, R95). -/
theorem acceptResponse (x : Head) (body : ResponseBody) (s : State) : s.CountsLink x (s.acceptResponse x body) := by
  by_cases compared : (s.links.get x).state = .syncing → responseKind body = .selfTest
  · rw [State.acceptResponse_ends compared, State.endCommand_eq]
    simp only [State.modifyLink, Pair.get_set_same, Pair.set_set]
    exact ⟨_, _, _, rfl, id⟩
  · obtain ⟨state, kind⟩ := Classical.not_imp.1 compared
    cases body with
    | selfTest => exact absurd rfl kind
    | identify serial model =>
      have syncing := (s.answered_state x serial model).trans state
      rw [State.acceptResponse_identify]
      by_cases confirms : (s.answered x serial model).store.confirms x serial = true
      · rw [State.identify_confirmed syncing confirms, State.answered]
        simp only [State.modifyLink, Pair.get_set_same, Pair.set_set]
        refine ⟨_, _, _, rfl, fun ⟨_, good, silence, rest, _⟩ => ?_⟩
        exact Link.Counted.tryUp state (rest (by simp [state])) good silence
      · rw [State.identify_foreign syncing confirms, State.enterForeign, State.answered]
        simp only [State.modifyLink, Pair.get_set_same, Pair.set_set]
        exact ⟨_, _, _, rfl, fun h => Link.Counted.foreign (l := (s.links.get x).answered serial model) h state⟩

end State.CountsLink

namespace State.FormKept

variable {s t u : State}

theorem of_same (h : s.SameForm t) : s.FormKept t := by
  obtain ⟨links, hist, counter, appends⟩ := h
  refine ⟨fun ring => ?_, fun x => links ▸ id⟩
  rwa [State.ringConsistent_iff, hist, counter, appends]

theorem refl (s : State) : s.FormKept s := ⟨id, fun _ => id⟩

theorem trans (h : s.FormKept t) (g : t.FormKept u) : s.FormKept u :=
  ⟨g.ring ∘ h.ring, fun x => g.link x ∘ h.link x⟩

/-! ### Links -/

/-- A change of one link, of conditions and of completions. -/
theorem of_link {x : Head} {link : Link} {cond : Conditions} {completions : List Completion}
    (h : (s.links.get x).Consistent → link.Consistent) :
    s.FormKept { s with
      links := s.links.set x link, cond := cond,
      arrivals := { s.arrivals with completions := completions } } := by
  refine ⟨id, fun y => ?_⟩
  cases x <;> cases y
  · exact h
  · exact id
  · exact id
  · exact h

/-- A change of one link that keeps the counts in range, and then the IDENTIFY that R88 may ask for. -/
theorem keepIdentifying {x : Head} (h : s.CountsLink x t) : s.FormKept (t.keepIdentifying x) := by
  obtain ⟨link, cond, completions, rfl, counted⟩ := h
  rw [State.keepIdentifying_eq, State.modifyLink]
  simp only [Pair.get_set_same, Pair.set_set]
  exact of_link fun consistent => (counted ((Link.consistent_iff _).1 consistent).1).identifying _

theorem linkError (s : State) (x : Head) (e : LinkError) : s.FormKept ((s.linkError x e).keepIdentifying x) :=
  keepIdentifying (.linkError x e s)

theorem responseArrival (s : State) (x : Head) (body : ResponseBody) : s.FormKept (responseArrival x body s) := by
  unfold Machine.responseArrival
  split
  · exact keepIdentifying (.acceptResponse x body s)
  · exact linkError s x _

theorem commandTimeout (s : State) (x : Head) : s.FormKept (commandTimeout x s) := by
  unfold Machine.commandTimeout
  split
  · exact keepIdentifying (.endCommand ..)
  · exact refl s

theorem missArrival (s : State) (x : Head) : s.FormKept (missArrival x s) := by
  unfold Machine.missArrival
  split
  · exact refl s
  · next n _ =>
    have taken : s.FormKept { s with arrivals := { s.arrivals with misses := s.arrivals.misses.set x n } } :=
      of_same ⟨rfl, rfl, rfl, rfl⟩
    exact taken.trans (linkError _ x _)

theorem strobeAt (s : State) (x : Head) (n : BitVec 8) : s.FormKept (s.strobeAt x n) := by
  by_cases state : (s.links.get x).state = .faulted
  · rw [State.strobeAt_faulted n state]
    by_cases few : (s.links.get x).silence < 63
    · rw [State.checkSilence_heard (by simp; omega)]
      refine of_link (completions := s.arrivals.completions) fun consistent => ?_
      have counted := ((Link.consistent_iff _).1 consistent).1
      exact Link.Counted.consistent (counted.quiet (n := (s.links.get x).silence + 1) (by omega)) (by simp [state])
    · rw [State.checkSilence_lost (by simp; omega), State.enterAbsent_eq]
      simp only [State.modifyLink, Pair.get_set_same, Pair.set_set]
      exact of_link fun _ => Link.Counted.consistent (.absent (slot := none) (result := _)
        { s.links.get x with
          downstream := (s.links.get x).downstream ++ [.strobe n], missed := satInc (s.links.get x).missed }) nofun
  · rw [State.strobeAt_sent n state]
    exact of_link (completions := s.arrivals.completions) id

theorem strobeAtLink (s : State) (x : Head) : s.FormKept (strobeAtLink x s) := by
  unfold Machine.strobeAtLink
  split
  · exact refl s
  · next n rest _ =>
    have taken : s.FormKept
        { s with arrivals := { s.arrivals with strobesToLink := s.arrivals.strobesToLink.set x rest } } :=
      of_same ⟨rfl, rfl, rfl, rfl⟩
    exact taken.trans (strobeAt _ x n)

/-! ### Windows -/

theorem closeWindow (s : State) : s.FormKept s.closeWindow := by
  cases current : s.sel.current with
  | none =>
    rw [State.closeWindow, current]
    exact refl s
  | some st =>
    obtain ⟨number, counter⟩ := s.closing_number st
    rw [State.closeWindow_eq current]
    exact ⟨fun ring => ring.published number counter, fun _ => id⟩

theorem openWindow (s : State) (strobe : Strobe) : s.FormKept (s.openWindow strobe) := by
  have opened : s.FormKept (s.windowOpened strobe) := of_same ⟨rfl, rfl, rfl, rfl⟩
  unfold State.openWindow
  dsimp only
  split
  · exact opened.trans (closeWindow _)
  · exact opened

theorem strobeArrival (s : State) : s.FormKept (strobeArrival s) := by
  unfold Machine.strobeArrival
  split
  · exact refl s
  · next strobe rest _ =>
    have taken : s.FormKept { s with arrivals := { s.arrivals with strobesToSel := rest } } :=
      of_same ⟨rfl, rfl, rfl, rfl⟩
    refine taken.trans ?_
    unfold State.strobeAtSel
    split
    · exact (closeWindow _).trans (openWindow _ strobe)
    · exact openWindow _ strobe

theorem recordFrame (s : State) (x : Head) (f : SampleFrame) : s.FormKept (s.recordFrame x f) := by
  have recorded : s.FormKept (s.recorded x f) := of_same ⟨rfl, rfl, rfl, rfl⟩
  obtain e | e := s.recordFrame_cases x f
  · rw [e]; exact recorded
  · rw [e]; exact recorded.trans (closeWindow _)

theorem sampleArrival (s : State) (x : Head) (f : SampleFrame) : s.FormKept (sampleArrival x f s) := by
  unfold Machine.sampleArrival
  split
  · rw [State.acceptSample_eq]
    have sampled : s.FormKept (s.sampled x f.status) := of_link fun consistent => by
      have accepted : ({ s.links.get x with accepted := satInc (s.links.get x).accepted } : Link).Counted :=
        ((Link.consistent_iff _).1 consistent).1
      have moved : ({ Link.moved { s.links.get x with accepted := satInc (s.links.get x).accepted } f.status with
          lastStatus := some f.status } : Link).Counted := accepted.moved f.status
      exact moved.identifying _
    exact sampled.trans (recordFrame _ x f)
  · exact linkError s x _

theorem brokenArrival (s : State) (x : Head) (bytes : List Byte) : s.FormKept (brokenArrival x bytes s) := by
  unfold Machine.brokenArrival
  split
  · exact sampleArrival ..
  · exact responseArrival ..
  · exact linkError s x _

/-! ### Requests -/

theorem hostCommand (s : State) (x : Head) (kind : CommandKind) (p : Port) (tag : Byte) :
    s.FormKept (hostCommand x kind p tag s).state := by
  unfold Machine.hostCommand
  split
  · exact refl s
  · split
    · exact refl s
    · refine of_link (completions := s.arrivals.completions) fun consistent => ?_
      exact (Link.consistent_iff _).2 ⟨((Link.consistent_iff _).1 consistent).1, fun _ _ => nofun⟩

theorem headIdent (s : State) (p : Port) (tag head : Byte) : s.FormKept (headIdent p tag head s).state := by
  unfold Machine.headIdent
  split
  · exact refl s
  · exact hostCommand ..

theorem headTest (s : State) (p : Port) (tag head : Byte) : s.FormKept (headTest p tag head s).state := by
  unfold Machine.headTest
  split
  · exact refl s
  · split
    · exact hostCommand ..
    · exact refl s

/-- A reader written within the ring. -/
theorem of_reader {p : Port} {r : Reader}
    (within : s.hist.Consecutive → (s.hist.readers[p]).Within s.hist → r.Within s.hist) :
    s.FormKept (s.modifyReader p fun _ => r) :=
  ⟨fun ring => by
    obtain ⟨numbers, readers, -⟩ := (State.ringConsistent_iff s).1 ring
    exact ring.modifyReader (within numbers (readers p)), fun _ => id⟩

theorem histRead (s : State) (p : Port) (max : Byte) : s.FormKept (histRead p max s).state := by
  by_cases range : 1 ≤ max.toNat ∧ max.toNat ≤ 4
  · rw [histRead_delivers range.1 range.2 rfl]
    refine of_reader fun _ within => ?_
    obtain ⟨near, watermark, -⟩ := within
    refine Reader.evaluate_within rfl ?_ watermark
    have few : min max.toNat (s.hist.unread p).toNat ≤ (s.hist.next - s.hist.readers[p].cursor).toNat :=
      Nat.min_le_right ..
    generalize min max.toNat (s.hist.unread p).toNat = k at few
    bv_omega
  · rw [histRead_outOfRange (by rw [BitVec.toNat_eq]; simp; omega)]
    exact refl s

theorem histPeek (s : State) (p : Port) : s.FormKept (histPeek p s).state := by
  unfold Machine.histPeek
  split <;> exact refl s

/-- A seek that is not refused sets the cursor within the ring (R36). -/
theorem seekTarget_near {h : History} {form : SeekForm} {n target : PubNum} (room : h.records.length ≤ 1024)
    (found : h.seekTarget form n = some target) : (h.next - target).toNat ≤ h.records.length := by
  cases form with
  | oldest =>
    obtain rfl : h.next - BitVec.ofNat 48 h.records.length = target := Option.some.inj found
    bv_omega
  | newest =>
    obtain rfl : (if h.records.isEmpty then h.next else h.next - 1) = target := Option.some.inj found
    split
    · simp
    · next held =>
      have : 0 < h.records.length := List.length_pos_of_ne_nil (by simpa using held)
      bv_omega
  | next =>
    obtain rfl : h.next = target := Option.some.inj found
    simp
  | absolute =>
    obtain ⟨near, same⟩ := Option.ite_none_right_eq_some.1 found
    obtain rfl : n = target := Option.some.inj same
    exact (toNat_sub_back_le_iff room).1 near

theorem histSeek (s : State) (p : Port) (form : Byte) (n : PubNum) : s.FormKept (histSeek p form n s).state := by
  cases sought : (seekFormOf form).bind fun f => s.hist.seekTarget f n with
  | none =>
    rw [histSeek_refused sought]
    exact refl s
  | some target =>
    obtain ⟨f, -, found⟩ := Option.bind_eq_some_iff.1 sought
    rw [histSeek_target sought]
    refine of_reader fun numbers within => ?_
    obtain ⟨-, watermark, -⟩ := within
    obtain ⟨room, -⟩ := numbers
    exact Reader.evaluate_within rfl (seekTarget_near room found) watermark

theorem histWatermark (s : State) (p : Port) (value : BitVec 16) : s.FormKept (histWatermark p value s).state := by
  by_cases good : value.toNat ≤ 1024
  · rw [histWatermark_set good]
    refine of_reader fun _ within => ?_
    obtain ⟨near, -⟩ := within
    exact Reader.evaluate_within rfl near good
  · rw [histWatermark_outOfRange (not_le.1 good)]
    exact refl s

/-- A command that is forgotten goes on (R100). -/
theorem forget_consistent {l : Link} (p : Port) (h : l.Consistent) : (l.forget p).Consistent := by
  obtain ⟨counted, busy⟩ := (Link.consistent_iff l).1 h
  unfold Link.forget
  split
  · refine (Link.consistent_iff _).2 ⟨counted, fun state unconfirmed => ?_⟩
    simpa using busy state unconfirmed
  · exact h

/-- The reader of a port that is reset has nothing unread (R41). -/
theorem portReset (s : State) (p : Port) : s.FormKept (portReset p s).state := by
  have reader : s.FormKept (s.resetReader p) :=
    of_reader fun _ _ => ⟨by simp, Nat.zero_le _, rfl⟩
  rw [portReset_state]
  refine ⟨reader.ring, fun x => ?_⟩
  cases x
  · exact forget_consistent p
  · exact forget_consistent p

/-! ### Resets -/

theorem resetBlocks (s : State) (power : Power) : s.FormKept (s.resetBlocks power) := by
  obtain ⟨-, -, -, -, ring, linkA, linkB, -⟩ := resetMeetsEveryInvariant
  refine ⟨fun _ => ring, fun x _ => ?_⟩
  cases x
  · exact linkA
  · exact linkB

theorem appendArrival (s : State) : s.FormKept (appendArrival s) := by
  unfold Machine.appendArrival
  split
  · exact refl s
  · next p rest flying =>
    refine ⟨fun ring => ring.appended flying, fun x => ?_⟩
    obtain ⟨-, links, -⟩ := ({ s with arrivals := { s.arrivals with appends := rest } } : State).appendRecord_frame p
    rw [links]
    exact id

theorem tick (s : State) : s.FormKept s.tick := by
  unfold State.tick
  split
  · refine ⟨id, fun x => ?_⟩
    cases x <;> exact id
  · exact refl s

/-! ### Commands -/

theorem of_whileRunning {f : State → State} (hf : s.FormKept (f s)) (h : whileRunning f s = .next t) : s.FormKept t := by
  unfold whileRunning at h
  split at h
  · cases h; exact hf
  · cases h; exact refl s

/-- A request keeps what its own part keeps (R171 to R174). -/
theorem of_requestEnd {r : Req} {k : RequestKind} {carry : State → Answer} (hc : ∀ u : State, u.FormKept (carry u).state)
    (h : requestEnd r k carry s = .next t) : s.FormKept t := by
  cases h
  cases ht : s.ports[r.port].txn with
  | none =>
    rw [s.endTransaction_none r.port _ _ ht]
    exact of_same ⟨rfl, rfl, rfl, rfl⟩
  | some tx =>
    rw [s.endTransaction_some r.port _ _ tx ht]
    have ended : s.FormKept (s.served r k) := of_same (by simp)
    refine ended.trans ?_
    change (s.served r k).FormKept (takeRequest r k carry tx.early (s.served r k))
    unfold takeRequest
    split
    · exact of_same (by simp)
    · split
      · exact of_same (by simp)
      · exact (hc _).trans (of_same (by simp))

theorem of_requestEnd_same {r : Req} {k : RequestKind} {carry : State → Answer}
    (hc : ∀ u, State.SameForm u (carry u).state) (h : requestEnd r k carry s = .next t) : s.FormKept t :=
  of_requestEnd (fun _ => of_same (hc _)) h

theorem of_carryOut {i : Instr} (h : carryOut i s = .next t) : s.FormKept t := by
  cases i with
  | identify | condRead | healthRead | timeRead | storeStatus =>
    exact of_requestEnd_same (fun _ => ⟨rfl, rfl, rfl, rfl⟩) h
  | portReset => exact of_requestEnd (fun _ => portReset ..) h
  | histRead => exact of_requestEnd (fun _ => histRead ..) h
  | histPeek => exact of_requestEnd (fun _ => histPeek ..) h
  | histSeek => exact of_requestEnd (fun _ => histSeek ..) h
  | histWatermark => exact of_requestEnd (fun _ => histWatermark ..) h
  | headIdent => exact of_requestEnd (fun _ => headIdent ..) h
  | headTest => exact of_requestEnd (fun _ => headTest ..) h
  | setAttention => exact of_requestEnd_same (fun _ => setAttention_sameForm ..) h
  | deltaOpen => exact of_requestEnd_same (fun _ => deltaOpen_sameForm ..) h
  | deltaTake => exact of_requestEnd_same (fun _ => deltaTake_sameForm ..) h
  | deltaCollect => exact of_requestEnd_same (fun _ => deltaCollect_sameForm ..) h
  | deltaClose => exact of_requestEnd_same (fun _ => deltaClose_sameForm ..) h
  | deltaStatus => exact of_requestEnd_same (fun _ => deltaStatus_sameForm ..) h
  | calRead => exact of_requestEnd_same (fun _ => calRead_sameForm ..) h
  | leaseAcquire => exact of_requestEnd_same (fun _ => leaseAcquire_sameForm ..) h
  | leaseRelease => exact of_requestEnd_same (fun _ => leaseRelease_sameForm ..) h
  | stageCal => exact of_requestEnd_same (fun _ => stageCal_sameForm ..) h
  | stageSource => exact of_requestEnd_same (fun _ => stageSource_sameForm ..) h
  | stageThresholds => exact of_requestEnd_same (fun _ => stageThresholds_sameForm ..) h
  | stageTiming => exact of_requestEnd_same (fun _ => stageTiming_sameForm ..) h
  | stageRead => exact of_requestEnd_same (fun _ => stageRead_sameForm ..) h
  | stageDiscard => exact of_requestEnd_same (fun _ => stageDiscard_sameForm ..) h
  | activate => exact of_requestEnd_same (fun _ => activate_sameForm ..) h
  | storeCommit => exact of_requestEnd_same (fun _ => storeCommit_sameForm ..) h
  | _ => cases h; exact of_same ⟨rfl, rfl, rfl, rfl⟩

theorem of_malformedRequest {p : Port} {bytes : List Byte} (h : execMalformedRequest p bytes s = .next t) :
    s.FormKept t := by
  have refused (found : Received) : s.FormKept (s.endTransaction p bytes.length (takeMalformed p bytes found)) :=
    of_same (s.endTransaction_sameForm p fun _ _ => takeMalformed_sameForm ..)
  unfold execMalformedRequest at h
  split at h
  · cases h; exact of_same (s.endTransaction_sameForm p fun _ _ => ⟨rfl, rfl, rfl, rfl⟩)
  · exact of_carryOut h
  · cases h; exact refused _
  · cases h; exact refused _
  · cases h; exact refused _

/-- Every command keeps each link consistent, and the ring with its readers. -/
theorem of_exec {c : Instr} (h : exec c s = .next t) : s.FormKept t := by
  by_cases request : (requestOf c).isSome = true
  · exact of_carryOut (exec_request request s ▸ h)
  have same {f : State → State} (hf : s.SameForm (f s)) (h : whileRunning f s = .next t) : s.FormKept t :=
    of_whileRunning (of_same hf) h
  cases c with
  | partReset cause =>
    replace h : execPartReset cause s = .next t := h
    unfold execPartReset at h
    split at h
    · cases h; exact resetBlocks s _
    · cases h; exact refl s
  | resetRelease =>
    replace h : execResetRelease s = .next t := h
    unfold execResetRelease at h
    split at h
    · cases h; exact resetBlocks s _
    · cases h; exact refl s
  | powerLoss => cases h; exact resetBlocks s _
  | strobeAtSel => exact of_whileRunning (strobeArrival s) h
  | strobeAtLink => exact of_whileRunning (strobeAtLink ..) h
  | sample => exact of_whileRunning (sampleArrival ..) h
  | response => exact of_whileRunning (responseArrival ..) h
  | crcError => exact of_whileRunning (brokenArrival ..) h
  | commandTimeout => exact of_whileRunning (commandTimeout ..) h
  | miss => exact of_whileRunning (missArrival ..) h
  | append => exact of_whileRunning (appendArrival s) h
  | chipSelectFall => cases h; exact of_same (chipSelectFall_sameForm ..)
  | nop => cases h; exact of_same (s.endTransaction_sameForm _ fun _ _ => ⟨rfl, rfl, rfl, rfl⟩)
  | malformedRequest => exact of_malformedRequest h
  | startUpLoad => exact same (startUpLoad_sameForm s) h
  | erasingEnd => exact same (erasingEnd_sameForm s) h
  | writingEnd => exact same (writingEnd_sameForm ..) h
  | verifyingEnd => exact same (verifyingEnd_sameForm s) h
  | completionArrival => exact same (completionArrival_sameForm ..) h
  | leaseExpiry => exact same (leaseExpiry_sameForm s) h
  | freeStrobe => exact same (freeStrobe_sameForm s) h
  | syncEdge => exact same (syncEdge_sameForm s) h
  | fallbackCheck => exact same (fallbackCheck_sameForm s) h
  | syncPulse => exact same (syncPulse_sameForm s) h
  | scheduledStrobe => exact same (scheduledStrobe_sameForm s) h
  | virtualOrigin => exact same (virtualOrigin_sameForm s) h
  | holdoverDeadline => exact same (holdoverDeadline_sameForm s) h
  | holdoverEnd => exact same (holdoverEnd_sameForm s) h
  | timingChange => exact same (timingArrival_sameForm s) h
  | publicationAtDelta => exact same (deltaArrival_sameForm s) h
  | walkStep => exact same (walkStep_sameForm ..) h
  | dropAtDelta => exact same (dropArrival_sameForm s) h
  | levelReEvaluation => exact same (levelArrival_sameForm s) h
  | _ => exact absurd rfl request

theorem of_step (h : step s = .next t) : s.FormKept t := by
  unfold step at h
  split at h
  · next rest _ =>
    have taken : s.FormKept { s with pending := rest } := of_same ⟨rfl, rfl, rfl, rfl⟩
    exact taken.trans (of_exec h)
  · unfold idleStep at h
    split at h
    · exact of_exec h
    · cases h
      exact tick s

end State.FormKept

/-- Settles O58: every command keeps the ring and its readers in form, by `State.FormKept.of_exec`; the close of a window
and an append are the ones that move them both. -/
theorem everyStepKeepsTheRingConsecutiveAndItsReadersWithinIt :
    Obligations.EveryStepKeepsTheRingConsecutiveAndItsReadersWithinIt :=
  fun _ _ consistent h => (State.FormKept.of_step h).ring consistent

/-- Settles O59: every command keeps each link consistent, by `State.FormKept.of_exec`; the errors, the RESPONSEs and the
accepted SAMPLEs are the ones that move its counts. -/
theorem everyStepKeepsTheLinksConsistent : Obligations.EveryStepKeepsTheLinksConsistent :=
  fun _ _ h => ⟨(State.FormKept.of_step h).link .A, (State.FormKept.of_step h).link .B⟩

end Sys2Proof.Machine
